-- ==== Sys2Proof/Word.lean ====
section
/-!
DEFINITION. The widths of the jULM block's values: registers and addresses (R6, R8, R20, R28), instruction words and
operand fields (R80, R81), register indices (R20) and characters (R273). All are bit vectors, bit 0 the least
significant (R7).
-/

namespace Sys2Proof

/-- A byte of memory (R50), or a character of the IODevice, `CHAR_BITS` = 8 (R273). -/
abbrev Byte := BitVec 8

/-- A 64-bit register value or address (R6, R8). -/
abbrev Word := BitVec 64

/-- A 32-bit instruction word (R80). -/
abbrev InstrWord := BitVec 32

/-- The 24-bit operand field of an instruction word (R80, R81). -/
abbrev OperandField := BitVec 24

/-- An 8-bit register index: every index 0 to 255 names a register (R20). -/
abbrev RegIdx := BitVec 8

end Sys2Proof
end

