-- ==== Sys2Proof/Syntax.lean ====
section
/-!
DEFINITION. The 95 operation kinds of R90 (30_encoding.md), and `Instr`: a kind with its decoded operands. A register
operand is an 8-bit index. An immediate operand is the 64-bit value the operand decoder gives (R82: "every immediate is a
64-bit value, extended as the name says"): `u` stands for uX or uXY, `v` for sX, sY, sXY or sXYZ, `d` for the displacement
sX of the displacement mode. Which values an encoding admits is the check of WellFormed.lean.
-/

namespace Sys2Proof

/-- The operation kinds, in the order of R90's table. -/
inductive Kind where
  -- Halt and no-op (46_system_io.md)
  | haltR | haltI | nop
  -- Integer arithmetic (42_arithmetic.md)
  | addRR | addIR | subRR | subIR | mulRR | mulRI | divuRR | divuIR | idivRR | idivIR
  -- Bitwise logic (43_logic.md)
  | andRR | orRR | notRR
  -- Immediate loads and shifts (41_load_shift.md)
  | ldiu | ldis | shldi | shlRR | shlIR | shrRR | shrIR | sarRR | sarIR
  -- Character I/O (46_system_io.md)
  | getc | putcR | putcI
  -- Control transfer (45_control_transfer.md)
  | jmpAbs | jmp | ja | jbe | jae | jb | jg | jle | jge | jl | jz | jnz
  -- Memory, displacement mode (44_memory_access.md)
  | ldu1D | ldu2D | ldu4D | ld8D | lds1D | lds2D | lds4D | st1D | st2D | st4D | st8D
  -- Memory, scaled mode, scale 1 (44_memory_access.md)
  | ldu1S1 | ldu2S1 | ldu4S1 | ld8S1 | lds1S1 | lds2S1 | lds4S1 | st1S1 | st2S1 | st4S1 | st8S1
  -- Memory, scaled mode, scale 2 (44_memory_access.md)
  | ldu1S2 | ldu2S2 | ldu4S2 | ld8S2 | lds1S2 | lds2S2 | lds4S2 | st1S2 | st2S2 | st4S2 | st8S2
  -- Memory, scaled mode, scale 4 (44_memory_access.md)
  | ldu1S4 | ldu2S4 | ldu4S4 | ld8S4 | lds1S4 | lds2S4 | lds4S4 | st1S4 | st2S4 | st4S4 | st8S4
  -- Memory, scaled mode, scale 8 (44_memory_access.md)
  | ldu1S8 | ldu2S8 | ldu4S8 | ld8S8 | lds1S8 | lds2S8 | lds4S8 | st1S8 | st2S8 | st4S8 | st8S8
  deriving DecidableEq, Repr

/-- One instruction of the block: a kind of R90 with the operands its format (R87) gives it. -/
inductive Instr where
  -- Halt and no-op (46_system_io.md)
  /-- HALT_R: `halt %x` (R270). -/
  | haltR (x : RegIdx)
  /-- HALT_I: `halt $uX` (R271). -/
  | haltI (u : Word)
  /-- NOP: `nop` (R272). -/
  | nop
  -- Integer arithmetic (42_arithmetic.md)
  /-- ADD_RR: `add %x, %y, %z` (R150). -/
  | addRR (x y z : RegIdx)
  /-- ADD_IR: `add $uX, %y, %z` (R151). -/
  | addIR (u : Word) (y z : RegIdx)
  /-- SUB_RR: `sub %x, %y, %z` (R152). -/
  | subRR (x y z : RegIdx)
  /-- SUB_IR: `sub $uX, %y, %z` (R153). -/
  | subIR (u : Word) (y z : RegIdx)
  /-- MUL_RR: `mul %x, %y, %z` (R155). -/
  | mulRR (x y z : RegIdx)
  /-- MUL_RI: `mul %x, $sY, %z` (R156). -/
  | mulRI (x : RegIdx) (v : Word) (z : RegIdx)
  /-- DIVU_RR: `divu %x, %y, %z` (R158). -/
  | divuRR (x y z : RegIdx)
  /-- DIVU_IR: `divu $uX, %y, %z` (R159). -/
  | divuIR (u : Word) (y z : RegIdx)
  /-- IDIV_RR: `idiv %x, %y, %z` (R161). -/
  | idivRR (x y z : RegIdx)
  /-- IDIV_IR: `idiv $sX, %y, %z` (R162). -/
  | idivIR (v : Word) (y z : RegIdx)
  -- Bitwise logic (43_logic.md)
  /-- AND_RR: `and %x, %y, %z` (R170). -/
  | andRR (x y z : RegIdx)
  /-- OR_RR: `or %x, %y, %z` (R171). -/
  | orRR (x y z : RegIdx)
  /-- NOT: `not %x, %y` (R172). -/
  | notRR (x y : RegIdx)
  -- Immediate loads and shifts (41_load_shift.md)
  /-- LDIU: `ldiu $uXY, %z` (R130). -/
  | ldiu (u : Word) (z : RegIdx)
  /-- LDIS: `ldis $sXY, %z` (R131). -/
  | ldis (v : Word) (z : RegIdx)
  /-- SHLDI: `shldi $uXY, %z` (R132). -/
  | shldi (u : Word) (z : RegIdx)
  /-- SHL_RR: `shl %x, %y, %z` (R134). -/
  | shlRR (x y z : RegIdx)
  /-- SHL_IR: `shl $uX, %y, %z` (R135). -/
  | shlIR (u : Word) (y z : RegIdx)
  /-- SHR_RR: `shr %x, %y, %z` (R137). -/
  | shrRR (x y z : RegIdx)
  /-- SHR_IR: `shr $uX, %y, %z` (R138). -/
  | shrIR (u : Word) (y z : RegIdx)
  /-- SAR_RR: `sar %x, %y, %z` (R139). -/
  | sarRR (x y z : RegIdx)
  /-- SAR_IR: `sar $uX, %y, %z` (R140). -/
  | sarIR (u : Word) (y z : RegIdx)
  -- Character I/O (46_system_io.md)
  /-- GETC: `getc %x` (R274). -/
  | getc (x : RegIdx)
  /-- PUTC_R: `putc %x` (R275). -/
  | putcR (x : RegIdx)
  /-- PUTC_I: `putc $uX` (R276). -/
  | putcI (u : Word)
  -- Control transfer (45_control_transfer.md)
  /-- JMP_ABS: `jmp %x, %y` (R250). -/
  | jmpAbs (x y : RegIdx)
  /-- JMP: `jmp $sXYZ` (R252). -/
  | jmp (v : Word)
  /-- JA: `ja $sXYZ` (R253). -/
  | ja (v : Word)
  /-- JBE: `jbe $sXYZ` (R254). -/
  | jbe (v : Word)
  /-- JAE: `jae $sXYZ` (R255). -/
  | jae (v : Word)
  /-- JB: `jb $sXYZ` (R256). -/
  | jb (v : Word)
  /-- JG: `jg $sXYZ` (R257). -/
  | jg (v : Word)
  /-- JLE: `jle $sXYZ` (R258). -/
  | jle (v : Word)
  /-- JGE: `jge $sXYZ` (R259). -/
  | jge (v : Word)
  /-- JL: `jl $sXYZ` (R260). -/
  | jl (v : Word)
  /-- JZ: `jz $sXYZ` (R261). -/
  | jz (v : Word)
  /-- JNZ: `jnz $sXYZ` (R262). -/
  | jnz (v : Word)
  -- Memory, displacement mode (44_memory_access.md)
  /-- LDU1_D: `ldu1 $sX(%y), %z` (R185). -/
  | ldu1D (d : Word) (y z : RegIdx)
  /-- LDU2_D: `ldu2 $sX(%y), %z` (R186). -/
  | ldu2D (d : Word) (y z : RegIdx)
  /-- LDU4_D: `ldu4 $sX(%y), %z` (R187). -/
  | ldu4D (d : Word) (y z : RegIdx)
  /-- LD8_D: `ld8 $sX(%y), %z` (R188). -/
  | ld8D (d : Word) (y z : RegIdx)
  /-- LDS1_D: `lds1 $sX(%y), %z` (R189). -/
  | lds1D (d : Word) (y z : RegIdx)
  /-- LDS2_D: `lds2 $sX(%y), %z` (R190). -/
  | lds2D (d : Word) (y z : RegIdx)
  /-- LDS4_D: `lds4 $sX(%y), %z` (R191). -/
  | lds4D (d : Word) (y z : RegIdx)
  /-- ST1_D: `st1 %z, $sX(%y)` (R192). -/
  | st1D (d : Word) (y z : RegIdx)
  /-- ST2_D: `st2 %z, $sX(%y)` (R193). -/
  | st2D (d : Word) (y z : RegIdx)
  /-- ST4_D: `st4 %z, $sX(%y)` (R194). -/
  | st4D (d : Word) (y z : RegIdx)
  /-- ST8_D: `st8 %z, $sX(%y)` (R195). -/
  | st8D (d : Word) (y z : RegIdx)
  -- Memory, scaled mode, scale 1 (44_memory_access.md)
  /-- LDU1_S1: `ldu1 (%x, %y, 1), %z` (R196). -/
  | ldu1S1 (x y z : RegIdx)
  /-- LDU2_S1: `ldu2 (%x, %y, 1), %z` (R197). -/
  | ldu2S1 (x y z : RegIdx)
  /-- LDU4_S1: `ldu4 (%x, %y, 1), %z` (R198). -/
  | ldu4S1 (x y z : RegIdx)
  /-- LD8_S1: `ld8 (%x, %y, 1), %z` (R199). -/
  | ld8S1 (x y z : RegIdx)
  /-- LDS1_S1: `lds1 (%x, %y, 1), %z` (R200). -/
  | lds1S1 (x y z : RegIdx)
  /-- LDS2_S1: `lds2 (%x, %y, 1), %z` (R201). -/
  | lds2S1 (x y z : RegIdx)
  /-- LDS4_S1: `lds4 (%x, %y, 1), %z` (R202). -/
  | lds4S1 (x y z : RegIdx)
  /-- ST1_S1: `st1 %z, (%x, %y, 1)` (R203). -/
  | st1S1 (x y z : RegIdx)
  /-- ST2_S1: `st2 %z, (%x, %y, 1)` (R204). -/
  | st2S1 (x y z : RegIdx)
  /-- ST4_S1: `st4 %z, (%x, %y, 1)` (R205). -/
  | st4S1 (x y z : RegIdx)
  /-- ST8_S1: `st8 %z, (%x, %y, 1)` (R206). -/
  | st8S1 (x y z : RegIdx)
  -- Memory, scaled mode, scale 2 (44_memory_access.md)
  /-- LDU1_S2: `ldu1 (%x, %y, 2), %z` (R207). -/
  | ldu1S2 (x y z : RegIdx)
  /-- LDU2_S2: `ldu2 (%x, %y, 2), %z` (R208). -/
  | ldu2S2 (x y z : RegIdx)
  /-- LDU4_S2: `ldu4 (%x, %y, 2), %z` (R209). -/
  | ldu4S2 (x y z : RegIdx)
  /-- LD8_S2: `ld8 (%x, %y, 2), %z` (R210). -/
  | ld8S2 (x y z : RegIdx)
  /-- LDS1_S2: `lds1 (%x, %y, 2), %z` (R211). -/
  | lds1S2 (x y z : RegIdx)
  /-- LDS2_S2: `lds2 (%x, %y, 2), %z` (R212). -/
  | lds2S2 (x y z : RegIdx)
  /-- LDS4_S2: `lds4 (%x, %y, 2), %z` (R213). -/
  | lds4S2 (x y z : RegIdx)
  /-- ST1_S2: `st1 %z, (%x, %y, 2)` (R214). -/
  | st1S2 (x y z : RegIdx)
  /-- ST2_S2: `st2 %z, (%x, %y, 2)` (R215). -/
  | st2S2 (x y z : RegIdx)
  /-- ST4_S2: `st4 %z, (%x, %y, 2)` (R216). -/
  | st4S2 (x y z : RegIdx)
  /-- ST8_S2: `st8 %z, (%x, %y, 2)` (R217). -/
  | st8S2 (x y z : RegIdx)
  -- Memory, scaled mode, scale 4 (44_memory_access.md)
  /-- LDU1_S4: `ldu1 (%x, %y, 4), %z` (R218). -/
  | ldu1S4 (x y z : RegIdx)
  /-- LDU2_S4: `ldu2 (%x, %y, 4), %z` (R219). -/
  | ldu2S4 (x y z : RegIdx)
  /-- LDU4_S4: `ldu4 (%x, %y, 4), %z` (R220). -/
  | ldu4S4 (x y z : RegIdx)
  /-- LD8_S4: `ld8 (%x, %y, 4), %z` (R221). -/
  | ld8S4 (x y z : RegIdx)
  /-- LDS1_S4: `lds1 (%x, %y, 4), %z` (R222). -/
  | lds1S4 (x y z : RegIdx)
  /-- LDS2_S4: `lds2 (%x, %y, 4), %z` (R223). -/
  | lds2S4 (x y z : RegIdx)
  /-- LDS4_S4: `lds4 (%x, %y, 4), %z` (R224). -/
  | lds4S4 (x y z : RegIdx)
  /-- ST1_S4: `st1 %z, (%x, %y, 4)` (R225). -/
  | st1S4 (x y z : RegIdx)
  /-- ST2_S4: `st2 %z, (%x, %y, 4)` (R226). -/
  | st2S4 (x y z : RegIdx)
  /-- ST4_S4: `st4 %z, (%x, %y, 4)` (R227). -/
  | st4S4 (x y z : RegIdx)
  /-- ST8_S4: `st8 %z, (%x, %y, 4)` (R228). -/
  | st8S4 (x y z : RegIdx)
  -- Memory, scaled mode, scale 8 (44_memory_access.md)
  /-- LDU1_S8: `ldu1 (%x, %y, 8), %z` (R229). -/
  | ldu1S8 (x y z : RegIdx)
  /-- LDU2_S8: `ldu2 (%x, %y, 8), %z` (R230). -/
  | ldu2S8 (x y z : RegIdx)
  /-- LDU4_S8: `ldu4 (%x, %y, 8), %z` (R231). -/
  | ldu4S8 (x y z : RegIdx)
  /-- LD8_S8: `ld8 (%x, %y, 8), %z` (R232). -/
  | ld8S8 (x y z : RegIdx)
  /-- LDS1_S8: `lds1 (%x, %y, 8), %z` (R233). -/
  | lds1S8 (x y z : RegIdx)
  /-- LDS2_S8: `lds2 (%x, %y, 8), %z` (R234). -/
  | lds2S8 (x y z : RegIdx)
  /-- LDS4_S8: `lds4 (%x, %y, 8), %z` (R235). -/
  | lds4S8 (x y z : RegIdx)
  /-- ST1_S8: `st1 %z, (%x, %y, 8)` (R236). -/
  | st1S8 (x y z : RegIdx)
  /-- ST2_S8: `st2 %z, (%x, %y, 8)` (R237). -/
  | st2S8 (x y z : RegIdx)
  /-- ST4_S8: `st4 %z, (%x, %y, 8)` (R238). -/
  | st4S8 (x y z : RegIdx)
  /-- ST8_S8: `st8 %z, (%x, %y, 8)` (R239). -/
  | st8S8 (x y z : RegIdx)
  deriving DecidableEq, Repr

/-- The kind of an instruction (R90). -/
def Instr.kind : Instr → Kind
  -- Halt and no-op (46_system_io.md)
  | .haltR _ => .haltR
  | .haltI _ => .haltI
  | .nop => .nop
  -- Integer arithmetic (42_arithmetic.md)
  | .addRR _ _ _ => .addRR
  | .addIR _ _ _ => .addIR
  | .subRR _ _ _ => .subRR
  | .subIR _ _ _ => .subIR
  | .mulRR _ _ _ => .mulRR
  | .mulRI _ _ _ => .mulRI
  | .divuRR _ _ _ => .divuRR
  | .divuIR _ _ _ => .divuIR
  | .idivRR _ _ _ => .idivRR
  | .idivIR _ _ _ => .idivIR
  -- Bitwise logic (43_logic.md)
  | .andRR _ _ _ => .andRR
  | .orRR _ _ _ => .orRR
  | .notRR _ _ => .notRR
  -- Immediate loads and shifts (41_load_shift.md)
  | .ldiu _ _ => .ldiu
  | .ldis _ _ => .ldis
  | .shldi _ _ => .shldi
  | .shlRR _ _ _ => .shlRR
  | .shlIR _ _ _ => .shlIR
  | .shrRR _ _ _ => .shrRR
  | .shrIR _ _ _ => .shrIR
  | .sarRR _ _ _ => .sarRR
  | .sarIR _ _ _ => .sarIR
  -- Character I/O (46_system_io.md)
  | .getc _ => .getc
  | .putcR _ => .putcR
  | .putcI _ => .putcI
  -- Control transfer (45_control_transfer.md)
  | .jmpAbs _ _ => .jmpAbs
  | .jmp _ => .jmp
  | .ja _ => .ja
  | .jbe _ => .jbe
  | .jae _ => .jae
  | .jb _ => .jb
  | .jg _ => .jg
  | .jle _ => .jle
  | .jge _ => .jge
  | .jl _ => .jl
  | .jz _ => .jz
  | .jnz _ => .jnz
  -- Memory, displacement mode (44_memory_access.md)
  | .ldu1D _ _ _ => .ldu1D
  | .ldu2D _ _ _ => .ldu2D
  | .ldu4D _ _ _ => .ldu4D
  | .ld8D _ _ _ => .ld8D
  | .lds1D _ _ _ => .lds1D
  | .lds2D _ _ _ => .lds2D
  | .lds4D _ _ _ => .lds4D
  | .st1D _ _ _ => .st1D
  | .st2D _ _ _ => .st2D
  | .st4D _ _ _ => .st4D
  | .st8D _ _ _ => .st8D
  -- Memory, scaled mode, scale 1 (44_memory_access.md)
  | .ldu1S1 _ _ _ => .ldu1S1
  | .ldu2S1 _ _ _ => .ldu2S1
  | .ldu4S1 _ _ _ => .ldu4S1
  | .ld8S1 _ _ _ => .ld8S1
  | .lds1S1 _ _ _ => .lds1S1
  | .lds2S1 _ _ _ => .lds2S1
  | .lds4S1 _ _ _ => .lds4S1
  | .st1S1 _ _ _ => .st1S1
  | .st2S1 _ _ _ => .st2S1
  | .st4S1 _ _ _ => .st4S1
  | .st8S1 _ _ _ => .st8S1
  -- Memory, scaled mode, scale 2 (44_memory_access.md)
  | .ldu1S2 _ _ _ => .ldu1S2
  | .ldu2S2 _ _ _ => .ldu2S2
  | .ldu4S2 _ _ _ => .ldu4S2
  | .ld8S2 _ _ _ => .ld8S2
  | .lds1S2 _ _ _ => .lds1S2
  | .lds2S2 _ _ _ => .lds2S2
  | .lds4S2 _ _ _ => .lds4S2
  | .st1S2 _ _ _ => .st1S2
  | .st2S2 _ _ _ => .st2S2
  | .st4S2 _ _ _ => .st4S2
  | .st8S2 _ _ _ => .st8S2
  -- Memory, scaled mode, scale 4 (44_memory_access.md)
  | .ldu1S4 _ _ _ => .ldu1S4
  | .ldu2S4 _ _ _ => .ldu2S4
  | .ldu4S4 _ _ _ => .ldu4S4
  | .ld8S4 _ _ _ => .ld8S4
  | .lds1S4 _ _ _ => .lds1S4
  | .lds2S4 _ _ _ => .lds2S4
  | .lds4S4 _ _ _ => .lds4S4
  | .st1S4 _ _ _ => .st1S4
  | .st2S4 _ _ _ => .st2S4
  | .st4S4 _ _ _ => .st4S4
  | .st8S4 _ _ _ => .st8S4
  -- Memory, scaled mode, scale 8 (44_memory_access.md)
  | .ldu1S8 _ _ _ => .ldu1S8
  | .ldu2S8 _ _ _ => .ldu2S8
  | .ldu4S8 _ _ _ => .ldu4S8
  | .ld8S8 _ _ _ => .ld8S8
  | .lds1S8 _ _ _ => .lds1S8
  | .lds2S8 _ _ _ => .lds2S8
  | .lds4S8 _ _ _ => .lds4S8
  | .st1S8 _ _ _ => .st1S8
  | .st2S8 _ _ _ => .st2S8
  | .st4S8 _ _ _ => .st4S8
  | .st8S8 _ _ _ => .st8S8

end Sys2Proof
end

