-- ==== Sys2Proof/Config.lean ====
section
/-!
DEFINITION. The parameters of the hardware (R6 00_scope.md) as plain data, the records its ports carry (R300, R312
60_exceptions.md), and what the spec leaves opaque, which has no body here: DISASM (R98, R318), the wording of ERROR_TEXT
(R300) and the IODevice's own reset (R312, R330).
-/

namespace Sys2Proof

/-- `OPMAP` (R84, R85): the opcodes that name a kind, each with its kind. An opcode that no entry lists is ILLEGAL. Where
an opcode is listed twice its first entry counts; a well-formed map lists none twice (log 2). -/
abbrev OpMap := List (Byte × Kind)

/-- `SHIFT_MODE` (R133). -/
inductive ShiftMode where
  | masked6 | mathematical
  deriving DecidableEq, Repr

/-- `MUL_FLAG_MODE` (R154). -/
inductive MulFlagMode where
  | setOnly | assign
  deriving DecidableEq, Repr

/-- `MUL_OVF_MODE` (R154). -/
inductive MulOvfMode where
  | highNonzero | signedFit
  deriving DecidableEq, Repr

/-- `SCALE_RULE` (R182). -/
inductive ScaleRule where
  | stride | literalShift
  deriving DecidableEq, Repr

/-- The parameters of R6 that the source leaves open. `pageCapacity` is `none` for the unbounded default (R62). The fixed
parameters of R6 (64-bit registers, 256 of them, 32-bit words, 1024-byte pages, 8-bit characters) are fixed by the types. -/
structure Config where
  opmap : OpMap
  shiftMode : ShiftMode
  mulFlagMode : MulFlagMode
  mulOvfMode : MulOvfMode
  scaleRule : ScaleRule
  pageCapacity : Option Nat
  deriving DecidableEq, Repr

/-- The access widths the memory primitives accept: 1 to 8 bytes (R56). A width of 0 or above 8 cannot be written (log 11). -/
inductive Width where
  | b1 | b2 | b3 | b4 | b5 | b6 | b7 | b8
  deriving DecidableEq, Repr

/-- What an ArithmeticFault records (R300). -/
inductive ArithCause where
  | divideByZero
  deriving DecidableEq, Repr

/-- The error records `lastError` can hold (R300): the kind and the information recorded with it. -/
inductive ErrorRecord where
  /-- The opcode byte and pc (R113). -/
  | illegalInstruction (opcode : Byte) (pc : Word)
  /-- The address and width of the access (R53). -/
  | memoryMisaligned (address : Word) (width : Width)
  /-- The address and width of the access (R54). -/
  | memoryOutOfBounds (address : Word) (width : Width)
  /-- The cause (R157, R160). -/
  | arithmeticFault (cause : ArithCause)
  /-- The register indices: (r, q) for divu, (q) for idiv (R157, R160). -/
  | registerIndexOutOfRange (indices : List RegIdx)
  /-- The address and width of the write (R62). -/
  | pageAllocFailure (address : Word) (width : Width)
  /-- The value given to the operand decoder (R83, R303); unreachable in the block. -/
  | invalidField (value : Nat)
  deriving DecidableEq, Repr

/-- The IODevice as R273 and R312 ask a model to take it: the characters it has ready, the next one first, and the
characters put out so far, the first one first. -/
structure IODevice where
  input : List Byte
  output : List Byte
  deriving DecidableEq, Repr, Inhabited

/-- `DISASM` (R98, R318): the disassembly text of a word whose kind has a disassembler entry. The spec gives none of the
strings, so this constant has no body (log 6). -/
opaque Config.disasm : InstrWord → Option String

/-- The wording of `ERROR_TEXT` (R300, I9): for IllegalInstruction the words before the opcode value, for every other record
the whole text. The spec gives no words, so this constant has no body (log 6). -/
opaque Config.errorWords : ErrorRecord → String

/-- The words of `ERROR_TEXT` after the opcode value of an IllegalInstruction (R300, I9; log 6). -/
opaque Config.errorWordsAfter : ErrorRecord → String

/-- Whether `ERROR_TEXT` writes the opcode value in hexadecimal or in decimal, the two notations of R95 (log 6). -/
opaque Config.opcodeInHex : Bool

/-- What the IODevice's own `reset()` does to it (R312, I21): outside the block, so this constant has no body (log 7). -/
opaque Config.deviceReset : IODevice → IODevice

end Sys2Proof
end

