-- ==== Sys2Proof/WellFormed.lean ====
section
/-!
DEFINITION. Which instructions an encoding admits: every immediate must be a value its field can give (R82, R87; the
assembler of R96 refuses a branch offset outside the 24-bit range), and the opcode map must map the instruction's kind
(R85). And which opcode maps conform (R85).
-/

namespace Sys2Proof

/-- `v` is a value of an unsigned n-bit field, zero-extended (R82). -/
def fitsU (n : Nat) (v : Word) : Bool := decide (v.toNat < 2 ^ n)

/-- `v` is a value of a signed n-bit field, sign-extended (R82). -/
def fitsS (n : Nat) (v : Word) : Bool := decide (-(2 : Int) ^ (n - 1) ≤ v.toInt) && decide (v.toInt < (2 : Int) ^ (n - 1))

/-- Every immediate of the instruction is one its field can hold: uX, sX and sY 8 bits, uXY and sXY 16 bits, sXYZ 24 bits
(R82), by the format of the kind (R87). -/
def Instr.immediatesFit : Instr → Bool
  -- formats N, R, RR, RRR and MX: no immediate
  | .nop => true
  | .haltR _ => true
  | .getc _ => true
  | .putcR _ => true
  | .notRR _ _ => true
  | .jmpAbs _ _ => true
  | .addRR _ _ _ => true
  | .subRR _ _ _ => true
  | .mulRR _ _ _ => true
  | .divuRR _ _ _ => true
  | .idivRR _ _ _ => true
  | .andRR _ _ _ => true
  | .orRR _ _ _ => true
  | .shlRR _ _ _ => true
  | .shrRR _ _ _ => true
  | .sarRR _ _ _ => true
  | .ldu1S1 _ _ _ => true
  | .ldu2S1 _ _ _ => true
  | .ldu4S1 _ _ _ => true
  | .ld8S1 _ _ _ => true
  | .lds1S1 _ _ _ => true
  | .lds2S1 _ _ _ => true
  | .lds4S1 _ _ _ => true
  | .st1S1 _ _ _ => true
  | .st2S1 _ _ _ => true
  | .st4S1 _ _ _ => true
  | .st8S1 _ _ _ => true
  | .ldu1S2 _ _ _ => true
  | .ldu2S2 _ _ _ => true
  | .ldu4S2 _ _ _ => true
  | .ld8S2 _ _ _ => true
  | .lds1S2 _ _ _ => true
  | .lds2S2 _ _ _ => true
  | .lds4S2 _ _ _ => true
  | .st1S2 _ _ _ => true
  | .st2S2 _ _ _ => true
  | .st4S2 _ _ _ => true
  | .st8S2 _ _ _ => true
  | .ldu1S4 _ _ _ => true
  | .ldu2S4 _ _ _ => true
  | .ldu4S4 _ _ _ => true
  | .ld8S4 _ _ _ => true
  | .lds1S4 _ _ _ => true
  | .lds2S4 _ _ _ => true
  | .lds4S4 _ _ _ => true
  | .st1S4 _ _ _ => true
  | .st2S4 _ _ _ => true
  | .st4S4 _ _ _ => true
  | .st8S4 _ _ _ => true
  | .ldu1S8 _ _ _ => true
  | .ldu2S8 _ _ _ => true
  | .ldu4S8 _ _ _ => true
  | .ld8S8 _ _ _ => true
  | .lds1S8 _ _ _ => true
  | .lds2S8 _ _ _ => true
  | .lds4S8 _ _ _ => true
  | .st1S8 _ _ _ => true
  | .st2S8 _ _ _ => true
  | .st4S8 _ _ _ => true
  | .st8S8 _ _ _ => true
  -- formats I8 and IRR: uX
  | .haltI u => fitsU 8 u
  | .putcI u => fitsU 8 u
  | .addIR u _ _ => fitsU 8 u
  | .subIR u _ _ => fitsU 8 u
  | .divuIR u _ _ => fitsU 8 u
  | .shlIR u _ _ => fitsU 8 u
  | .shrIR u _ _ => fitsU 8 u
  | .sarIR u _ _ => fitsU 8 u
  -- formats SRR and RSR: sX and sY
  | .idivIR v _ _ => fitsS 8 v
  | .mulRI _ v _ => fitsS 8 v
  -- format U16R: uXY
  | .ldiu u _ => fitsU 16 u
  | .shldi u _ => fitsU 16 u
  -- format S16R: sXY
  | .ldis v _ => fitsS 16 v
  -- format J24: sXYZ
  | .jmp v => fitsS 24 v
  | .ja v => fitsS 24 v
  | .jbe v => fitsS 24 v
  | .jae v => fitsS 24 v
  | .jb v => fitsS 24 v
  | .jg v => fitsS 24 v
  | .jle v => fitsS 24 v
  | .jge v => fitsS 24 v
  | .jl v => fitsS 24 v
  | .jz v => fitsS 24 v
  | .jnz v => fitsS 24 v
  -- format MD: the displacement sX
  | .ldu1D d _ _ => fitsS 8 d
  | .ldu2D d _ _ => fitsS 8 d
  | .ldu4D d _ _ => fitsS 8 d
  | .ld8D d _ _ => fitsS 8 d
  | .lds1D d _ _ => fitsS 8 d
  | .lds2D d _ _ => fitsS 8 d
  | .lds4D d _ _ => fitsS 8 d
  | .st1D d _ _ => fitsS 8 d
  | .st2D d _ _ => fitsS 8 d
  | .st4D d _ _ => fitsS 8 d
  | .st8D d _ _ => fitsS 8 d

/-- The map has an opcode for the kind. -/
def OpMap.mapsKind (m : OpMap) (k : Kind) : Bool := m.any (fun e => e.2 == k)

/-- The instruction can be encoded under the map `m`: its kind is mapped and its immediates fit. -/
def WellFormed (m : OpMap) (i : Instr) : Bool := m.mapsKind i.kind && i.immediatesFit

/-- The kinds R90 marks `optional`. -/
def Kind.optional (k : Kind) : Bool :=
  k == .shrRR || k == .shrIR || k == .sarRR || k == .sarIR || k == .idivIR

/-- Every kind, in the order of R90's table. -/
def Kind.all : List Kind :=
  ([.haltR, .haltI, .nop] : List Kind)
  ++ ([.addRR, .addIR, .subRR, .subIR, .mulRR, .mulRI, .divuRR, .divuIR, .idivRR, .idivIR] : List Kind)
  ++ ([.andRR, .orRR, .notRR] : List Kind)
  ++ ([.ldiu, .ldis, .shldi, .shlRR, .shlIR, .shrRR, .shrIR, .sarRR, .sarIR] : List Kind)
  ++ ([.getc, .putcR, .putcI] : List Kind)
  ++ ([.jmpAbs, .jmp, .ja, .jbe, .jae, .jb, .jg, .jle, .jge, .jl, .jz, .jnz] : List Kind)
  ++ ([.ldu1D, .ldu2D, .ldu4D, .ld8D, .lds1D, .lds2D, .lds4D, .st1D, .st2D, .st4D, .st8D] : List Kind)
  ++ ([.ldu1S1, .ldu2S1, .ldu4S1, .ld8S1, .lds1S1, .lds2S1, .lds4S1, .st1S1, .st2S1, .st4S1, .st8S1] : List Kind)
  ++ ([.ldu1S2, .ldu2S2, .ldu4S2, .ld8S2, .lds1S2, .lds2S2, .lds4S2, .st1S2, .st2S2, .st4S2, .st8S2] : List Kind)
  ++ ([.ldu1S4, .ldu2S4, .ldu4S4, .ld8S4, .lds1S4, .lds2S4, .lds4S4, .st1S4, .st2S4, .st4S4, .st8S4] : List Kind)
  ++ ([.ldu1S8, .ldu2S8, .ldu4S8, .ld8S8, .lds1S8, .lds2S8, .lds4S8, .st1S8, .st2S8, .st4S8, .st8S8] : List Kind)

/-- No opcode is listed twice, so that the map is a function of the opcode (R84: "a fixed mapping"). -/
def OpMap.functional (m : OpMap) : Bool := decide (m.map (·.1)).Nodup

/-- A conforming opcode map (R85): every required kind is mapped; at least one form of the logical and one of the
arithmetic right shift is mapped; and the map is a function. Its third condition, that an unmapped opcode is ILLEGAL, holds
of every map by what an unlisted opcode means. -/
def OpMap.conforming (m : OpMap) : Bool :=
  Kind.all.all (fun k => k.optional || m.mapsKind k)
    && (m.mapsKind .shrRR || m.mapsKind .shrIR)
    && (m.mapsKind .sarRR || m.mapsKind .sarIR)
    && m.functional

end Sys2Proof
end

