-- ==== Sys2Proof/Decode.lean ====
section
/-!
DEFINITION. Decoding (30_encoding.md): the reference opcode map and the default parameters, the operand decoder, the
decoder from bytes, and after them the encoder. Decoding is total: it answers an instruction or a named error.
-/

namespace Sys2Proof

/-! ### The opcode map -/

/-- `REF_OPMAP` (R86, R90): the reference opcodes. -/
def refOpmap : OpMap :=
  -- Halt and no-op (46_system_io.md)
  ([(0x01, .haltR), (0x02, .haltI), (0x03, .nop)] : OpMap)
  -- Integer arithmetic (42_arithmetic.md)
  ++ ([(0x10, .addRR), (0x11, .addIR), (0x12, .subRR), (0x13, .subIR), (0x14, .mulRR), (0x15, .mulRI),
      (0x16, .divuRR), (0x17, .divuIR), (0x18, .idivRR), (0x19, .idivIR)] : OpMap)
  -- Bitwise logic (43_logic.md)
  ++ ([(0x20, .andRR), (0x21, .orRR), (0x22, .notRR)] : OpMap)
  -- Immediate loads and shifts (41_load_shift.md)
  ++ ([(0x28, .ldiu), (0x29, .ldis), (0x2A, .shldi), (0x2B, .shlRR), (0x2C, .shlIR), (0x2D, .shrRR),
      (0x2E, .shrIR), (0x2F, .sarRR), (0x30, .sarIR)] : OpMap)
  -- Character I/O (46_system_io.md)
  ++ ([(0x38, .getc), (0x39, .putcR), (0x3A, .putcI)] : OpMap)
  -- Control transfer (45_control_transfer.md)
  ++ ([(0x40, .jmpAbs), (0x41, .jmp), (0x42, .ja), (0x43, .jbe), (0x44, .jae), (0x45, .jb), (0x46, .jg),
      (0x47, .jle), (0x48, .jge), (0x49, .jl), (0x4A, .jz), (0x4B, .jnz)] : OpMap)
  -- Memory, displacement mode (44_memory_access.md)
  ++ ([(0x80, .ldu1D), (0x81, .ldu2D), (0x82, .ldu4D), (0x83, .ld8D), (0x84, .lds1D), (0x85, .lds2D),
      (0x86, .lds4D), (0x87, .st1D), (0x88, .st2D), (0x89, .st4D), (0x8A, .st8D)] : OpMap)
  -- Memory, scaled mode, scale 1 (44_memory_access.md)
  ++ ([(0x8B, .ldu1S1), (0x8C, .ldu2S1), (0x8D, .ldu4S1), (0x8E, .ld8S1), (0x8F, .lds1S1), (0x90, .lds2S1),
      (0x91, .lds4S1), (0x92, .st1S1), (0x93, .st2S1), (0x94, .st4S1), (0x95, .st8S1)] : OpMap)
  -- Memory, scaled mode, scale 2 (44_memory_access.md)
  ++ ([(0x96, .ldu1S2), (0x97, .ldu2S2), (0x98, .ldu4S2), (0x99, .ld8S2), (0x9A, .lds1S2), (0x9B, .lds2S2),
      (0x9C, .lds4S2), (0x9D, .st1S2), (0x9E, .st2S2), (0x9F, .st4S2), (0xA0, .st8S2)] : OpMap)
  -- Memory, scaled mode, scale 4 (44_memory_access.md)
  ++ ([(0xA1, .ldu1S4), (0xA2, .ldu2S4), (0xA3, .ldu4S4), (0xA4, .ld8S4), (0xA5, .lds1S4), (0xA6, .lds2S4),
      (0xA7, .lds4S4), (0xA8, .st1S4), (0xA9, .st2S4), (0xAA, .st4S4), (0xAB, .st8S4)] : OpMap)
  -- Memory, scaled mode, scale 8 (44_memory_access.md)
  ++ ([(0xAC, .ldu1S8), (0xAD, .ldu2S8), (0xAE, .ldu4S8), (0xAF, .ld8S8), (0xB0, .lds1S8), (0xB1, .lds2S8),
      (0xB2, .lds4S8), (0xB3, .st1S8), (0xB4, .st2S8), (0xB5, .st4S8), (0xB6, .st8S8)] : OpMap)

/-- The parameters' defaults (R6). -/
def refConfig : Config where
  opmap := refOpmap
  shiftMode := .masked6
  mulFlagMode := .setOnly
  mulOvfMode := .highNonzero
  scaleRule := .stride
  pageCapacity := none

/-- `OPMAP(op)` (R84): the kind of an opcode, or none where it is ILLEGAL. -/
def OpMap.kindAt : OpMap → Byte → Option Kind
  | [], _ => none
  | (o, k) :: m, op => if o = op then some k else OpMap.kindAt m op

/-- The opcode the map's first entry for a kind gives it. -/
def OpMap.opcodeOf : OpMap → Kind → Option Byte
  | [], _ => none
  | (o, j) :: m, k => if j = k then some o else OpMap.opcodeOf m k

/-! ### The operand decoder (R82) -/

/-- The unsigned value of an n-bit field as 64 bits: `zext_n` (R10). -/
def zeroExt {n : Nat} (f : BitVec n) : Word := f.setWidth 64

/-- The two's-complement value of an n-bit field as 64 bits: `sext_n` (R10). -/
def signExt {n : Nat} (f : BitVec n) : Word := f.signExtend 64

/-- The nine values the operand decoder produces for every operand field (R82). -/
structure Operands where
  rX : RegIdx
  rY : RegIdx
  rZ : RegIdx
  uX : Word
  uXY : Word
  sX : Word
  sY : Word
  sXY : Word
  sXYZ : Word
  deriving DecidableEq, Repr

/-- The opcode of a word, bits 31 to 24 (R80, R84). -/
def opcodeBits (w : InstrWord) : Byte := w.extractLsb' 24 8

/-- The operand field of a word, bits 23 to 0 (R80). -/
def fieldBits (w : InstrWord) : OperandField := w.extractLsb' 0 24

/-- Operand byte X, bits 23:16 of the word (R81). -/
def byteX (f : OperandField) : Byte := f.extractLsb' 16 8

/-- Operand byte Y, bits 15:8 of the word (R81). -/
def byteY (f : OperandField) : Byte := f.extractLsb' 8 8

/-- Operand byte Z, bits 7:0 of the word (R81). -/
def byteZ (f : OperandField) : Byte := f.extractLsb' 0 8

/-- Bits 23:8 of the word, the field of uXY and sXY (R82). -/
def halfXY (f : OperandField) : BitVec 16 := f.extractLsb' 8 16

/-- The operand decoder (R82). -/
def decodeOperands (f : OperandField) : Operands where
  rX := byteX f
  rY := byteY f
  rZ := byteZ f
  uX := zeroExt (byteX f)
  uXY := zeroExt (halfXY f)
  sX := signExt (byteX f)
  sY := signExt (byteY f)
  sXY := signExt (halfXY f)
  sXYZ := signExt f

/-- The operand decoder as a separate function of a number: more than 24 significant bits are InvalidField (R83, R303).
The step never calls it: its input is always 24 bits. -/
def decodeOperandsOf (value : Nat) : Except ErrorRecord Operands :=
  if value < 2 ^ 24 then .ok (decodeOperands (BitVec.ofNat 24 value)) else .error (.invalidField value)

/-- The instruction of a kind with the operands its format takes from the decoded field (R87, R90). -/
def Kind.assemble (k : Kind) (F : Operands) : Instr :=
  match k with
  | .haltR => .haltR F.rX
  | .haltI => .haltI F.uX
  | .nop => .nop
  | .addRR => .addRR F.rX F.rY F.rZ
  | .addIR => .addIR F.uX F.rY F.rZ
  | .subRR => .subRR F.rX F.rY F.rZ
  | .subIR => .subIR F.uX F.rY F.rZ
  | .mulRR => .mulRR F.rX F.rY F.rZ
  | .mulRI => .mulRI F.rX F.sY F.rZ
  | .divuRR => .divuRR F.rX F.rY F.rZ
  | .divuIR => .divuIR F.uX F.rY F.rZ
  | .idivRR => .idivRR F.rX F.rY F.rZ
  | .idivIR => .idivIR F.sX F.rY F.rZ
  | .andRR => .andRR F.rX F.rY F.rZ
  | .orRR => .orRR F.rX F.rY F.rZ
  | .notRR => .notRR F.rX F.rY
  | .ldiu => .ldiu F.uXY F.rZ
  | .ldis => .ldis F.sXY F.rZ
  | .shldi => .shldi F.uXY F.rZ
  | .shlRR => .shlRR F.rX F.rY F.rZ
  | .shlIR => .shlIR F.uX F.rY F.rZ
  | .shrRR => .shrRR F.rX F.rY F.rZ
  | .shrIR => .shrIR F.uX F.rY F.rZ
  | .sarRR => .sarRR F.rX F.rY F.rZ
  | .sarIR => .sarIR F.uX F.rY F.rZ
  | .getc => .getc F.rX
  | .putcR => .putcR F.rX
  | .putcI => .putcI F.uX
  | .jmpAbs => .jmpAbs F.rX F.rY
  | .jmp => .jmp F.sXYZ
  | .ja => .ja F.sXYZ
  | .jbe => .jbe F.sXYZ
  | .jae => .jae F.sXYZ
  | .jb => .jb F.sXYZ
  | .jg => .jg F.sXYZ
  | .jle => .jle F.sXYZ
  | .jge => .jge F.sXYZ
  | .jl => .jl F.sXYZ
  | .jz => .jz F.sXYZ
  | .jnz => .jnz F.sXYZ
  | .ldu1D => .ldu1D F.sX F.rY F.rZ
  | .ldu2D => .ldu2D F.sX F.rY F.rZ
  | .ldu4D => .ldu4D F.sX F.rY F.rZ
  | .ld8D => .ld8D F.sX F.rY F.rZ
  | .lds1D => .lds1D F.sX F.rY F.rZ
  | .lds2D => .lds2D F.sX F.rY F.rZ
  | .lds4D => .lds4D F.sX F.rY F.rZ
  | .st1D => .st1D F.sX F.rY F.rZ
  | .st2D => .st2D F.sX F.rY F.rZ
  | .st4D => .st4D F.sX F.rY F.rZ
  | .st8D => .st8D F.sX F.rY F.rZ
  | .ldu1S1 => .ldu1S1 F.rX F.rY F.rZ
  | .ldu2S1 => .ldu2S1 F.rX F.rY F.rZ
  | .ldu4S1 => .ldu4S1 F.rX F.rY F.rZ
  | .ld8S1 => .ld8S1 F.rX F.rY F.rZ
  | .lds1S1 => .lds1S1 F.rX F.rY F.rZ
  | .lds2S1 => .lds2S1 F.rX F.rY F.rZ
  | .lds4S1 => .lds4S1 F.rX F.rY F.rZ
  | .st1S1 => .st1S1 F.rX F.rY F.rZ
  | .st2S1 => .st2S1 F.rX F.rY F.rZ
  | .st4S1 => .st4S1 F.rX F.rY F.rZ
  | .st8S1 => .st8S1 F.rX F.rY F.rZ
  | .ldu1S2 => .ldu1S2 F.rX F.rY F.rZ
  | .ldu2S2 => .ldu2S2 F.rX F.rY F.rZ
  | .ldu4S2 => .ldu4S2 F.rX F.rY F.rZ
  | .ld8S2 => .ld8S2 F.rX F.rY F.rZ
  | .lds1S2 => .lds1S2 F.rX F.rY F.rZ
  | .lds2S2 => .lds2S2 F.rX F.rY F.rZ
  | .lds4S2 => .lds4S2 F.rX F.rY F.rZ
  | .st1S2 => .st1S2 F.rX F.rY F.rZ
  | .st2S2 => .st2S2 F.rX F.rY F.rZ
  | .st4S2 => .st4S2 F.rX F.rY F.rZ
  | .st8S2 => .st8S2 F.rX F.rY F.rZ
  | .ldu1S4 => .ldu1S4 F.rX F.rY F.rZ
  | .ldu2S4 => .ldu2S4 F.rX F.rY F.rZ
  | .ldu4S4 => .ldu4S4 F.rX F.rY F.rZ
  | .ld8S4 => .ld8S4 F.rX F.rY F.rZ
  | .lds1S4 => .lds1S4 F.rX F.rY F.rZ
  | .lds2S4 => .lds2S4 F.rX F.rY F.rZ
  | .lds4S4 => .lds4S4 F.rX F.rY F.rZ
  | .st1S4 => .st1S4 F.rX F.rY F.rZ
  | .st2S4 => .st2S4 F.rX F.rY F.rZ
  | .st4S4 => .st4S4 F.rX F.rY F.rZ
  | .st8S4 => .st8S4 F.rX F.rY F.rZ
  | .ldu1S8 => .ldu1S8 F.rX F.rY F.rZ
  | .ldu2S8 => .ldu2S8 F.rX F.rY F.rZ
  | .ldu4S8 => .ldu4S8 F.rX F.rY F.rZ
  | .ld8S8 => .ld8S8 F.rX F.rY F.rZ
  | .lds1S8 => .lds1S8 F.rX F.rY F.rZ
  | .lds2S8 => .lds2S8 F.rX F.rY F.rZ
  | .lds4S8 => .lds4S8 F.rX F.rY F.rZ
  | .st1S8 => .st1S8 F.rX F.rY F.rZ
  | .st2S8 => .st2S8 F.rX F.rY F.rZ
  | .st4S8 => .st4S8 F.rX F.rY F.rZ
  | .st8S8 => .st8S8 F.rX F.rY F.rZ

/-! ### The decoder -/

/-- Why some bytes are no instruction. -/
inductive DecodeError where
  /-- `OPMAP` maps the opcode to ILLEGAL (R84, R93). -/
  | illegalOpcode (op : Byte)
  /-- Fewer than the four bytes of a word (R80) are there. -/
  | truncated (length : Nat)
  deriving DecidableEq, Repr

/-- Decode of a fetched word (R84, R112). Only the opcode decides whether the word is legal (R88, R93). -/
def decodeWord (m : OpMap) (w : InstrWord) : Except DecodeError Instr :=
  match m.kindAt (opcodeBits w) with
  | some k => .ok (k.assemble (decodeOperands (fieldBits w)))
  | none => .error (.illegalOpcode (opcodeBits w))

/-- The word four bytes hold, the most significant byte first (R52, R80). -/
def wordOfBytes (b0 b1 b2 b3 : Byte) : InstrWord := b0 ++ b1 ++ b2 ++ b3

/-- The four bytes of a word as memory holds them, the most significant byte first (R52, R64). -/
def bytesOfWord (w : InstrWord) : List Byte :=
  [w.extractLsb' 24 8, w.extractLsb' 16 8, w.extractLsb' 8 8, w.extractLsb' 0 8]

/-- The decoder from bytes: it consumes exactly 4 bytes (R80) and hands back the rest. -/
def decode (m : OpMap) : List Byte → Except DecodeError (Instr × List Byte)
  | b0 :: b1 :: b2 :: b3 :: rest =>
    match decodeWord m (wordOfBytes b0 b1 b2 b3) with
    | .ok i => .ok (i, rest)
    | .error e => .error e
  | bytes => .error (.truncated bytes.length)

/-- The word whose low `nbits` bits are those of `w` and whose bits above are 0. -/
def tableWord (nbits w : Nat) : InstrWord := BitVec.ofNat 32 (w % 2 ^ nbits)

/-- The instruction the decoder reads, under the reference map, from an instruction whose bits are `w`, numbered as
spec/opcode_table.json numbers them: the word is laid out in its byte order and given to the decoder. -/
def decodeTableWord (nbits w : Nat) : Option Instr :=
  match decode refOpmap (bytesOfWord (tableWord nbits w)) with
  | .ok (i, _) => some i
  | .error _ => none

/-! ### The encoder -/

/-- An operand field from its three bytes (R81). -/
def packBytes (x y z : Byte) : OperandField := x ++ y ++ z

/-- An operand field from its 16-bit immediate and its register byte (R87, formats U16R and S16R). -/
def packHalf (h : BitVec 16) (z : Byte) : OperandField := h ++ z

/-- The low 8 bits of an immediate (R82). -/
def imm8 (v : Word) : Byte := v.setWidth 8

/-- The low 16 bits of an immediate (R82). -/
def imm16 (v : Word) : BitVec 16 := v.setWidth 16

/-- The low 24 bits of an immediate (R82). -/
def imm24 (v : Word) : OperandField := v.setWidth 24

/-- The operand field of an instruction by its format (R87). Ignored bytes (R88) are written as 0 (log 16). -/
def Instr.field : Instr → OperandField
  | .haltR x => packBytes x 0 0
  | .haltI u => packBytes (imm8 u) 0 0
  | .nop => packBytes 0 0 0
  | .addRR x y z => packBytes x y z
  | .addIR u y z => packBytes (imm8 u) y z
  | .subRR x y z => packBytes x y z
  | .subIR u y z => packBytes (imm8 u) y z
  | .mulRR x y z => packBytes x y z
  | .mulRI x v z => packBytes x (imm8 v) z
  | .divuRR x y z => packBytes x y z
  | .divuIR u y z => packBytes (imm8 u) y z
  | .idivRR x y z => packBytes x y z
  | .idivIR v y z => packBytes (imm8 v) y z
  | .andRR x y z => packBytes x y z
  | .orRR x y z => packBytes x y z
  | .notRR x y => packBytes x y 0
  | .ldiu u z => packHalf (imm16 u) z
  | .ldis v z => packHalf (imm16 v) z
  | .shldi u z => packHalf (imm16 u) z
  | .shlRR x y z => packBytes x y z
  | .shlIR u y z => packBytes (imm8 u) y z
  | .shrRR x y z => packBytes x y z
  | .shrIR u y z => packBytes (imm8 u) y z
  | .sarRR x y z => packBytes x y z
  | .sarIR u y z => packBytes (imm8 u) y z
  | .getc x => packBytes x 0 0
  | .putcR x => packBytes x 0 0
  | .putcI u => packBytes (imm8 u) 0 0
  | .jmpAbs x y => packBytes x y 0
  | .jmp v => imm24 v
  | .ja v => imm24 v
  | .jbe v => imm24 v
  | .jae v => imm24 v
  | .jb v => imm24 v
  | .jg v => imm24 v
  | .jle v => imm24 v
  | .jge v => imm24 v
  | .jl v => imm24 v
  | .jz v => imm24 v
  | .jnz v => imm24 v
  | .ldu1D d y z => packBytes (imm8 d) y z
  | .ldu2D d y z => packBytes (imm8 d) y z
  | .ldu4D d y z => packBytes (imm8 d) y z
  | .ld8D d y z => packBytes (imm8 d) y z
  | .lds1D d y z => packBytes (imm8 d) y z
  | .lds2D d y z => packBytes (imm8 d) y z
  | .lds4D d y z => packBytes (imm8 d) y z
  | .st1D d y z => packBytes (imm8 d) y z
  | .st2D d y z => packBytes (imm8 d) y z
  | .st4D d y z => packBytes (imm8 d) y z
  | .st8D d y z => packBytes (imm8 d) y z
  | .ldu1S1 x y z => packBytes x y z
  | .ldu2S1 x y z => packBytes x y z
  | .ldu4S1 x y z => packBytes x y z
  | .ld8S1 x y z => packBytes x y z
  | .lds1S1 x y z => packBytes x y z
  | .lds2S1 x y z => packBytes x y z
  | .lds4S1 x y z => packBytes x y z
  | .st1S1 x y z => packBytes x y z
  | .st2S1 x y z => packBytes x y z
  | .st4S1 x y z => packBytes x y z
  | .st8S1 x y z => packBytes x y z
  | .ldu1S2 x y z => packBytes x y z
  | .ldu2S2 x y z => packBytes x y z
  | .ldu4S2 x y z => packBytes x y z
  | .ld8S2 x y z => packBytes x y z
  | .lds1S2 x y z => packBytes x y z
  | .lds2S2 x y z => packBytes x y z
  | .lds4S2 x y z => packBytes x y z
  | .st1S2 x y z => packBytes x y z
  | .st2S2 x y z => packBytes x y z
  | .st4S2 x y z => packBytes x y z
  | .st8S2 x y z => packBytes x y z
  | .ldu1S4 x y z => packBytes x y z
  | .ldu2S4 x y z => packBytes x y z
  | .ldu4S4 x y z => packBytes x y z
  | .ld8S4 x y z => packBytes x y z
  | .lds1S4 x y z => packBytes x y z
  | .lds2S4 x y z => packBytes x y z
  | .lds4S4 x y z => packBytes x y z
  | .st1S4 x y z => packBytes x y z
  | .st2S4 x y z => packBytes x y z
  | .st4S4 x y z => packBytes x y z
  | .st8S4 x y z => packBytes x y z
  | .ldu1S8 x y z => packBytes x y z
  | .ldu2S8 x y z => packBytes x y z
  | .ldu4S8 x y z => packBytes x y z
  | .ld8S8 x y z => packBytes x y z
  | .lds1S8 x y z => packBytes x y z
  | .lds2S8 x y z => packBytes x y z
  | .lds4S8 x y z => packBytes x y z
  | .st1S8 x y z => packBytes x y z
  | .st2S8 x y z => packBytes x y z
  | .st4S8 x y z => packBytes x y z
  | .st8S8 x y z => packBytes x y z

/-- The word of an instruction under the map `m`, or none where the map has no opcode for its kind (R80, R90). -/
def encode (m : OpMap) (i : Instr) : Option InstrWord :=
  match m.opcodeOf i.kind with
  | some op => some (op ++ i.field)
  | none => none

end Sys2Proof
end

