-- ==== Sys2Proof/Machine/State.lean ====
section
/-!
DEFINITION. The state of the jULM block (10_state.md), all of it as plain data, its value at reset (R41, R330), and the
reasons a step or a host transaction can stop.
-/

namespace Sys2Proof.Machine

open Sys2Proof

/-- The run status (R33). -/
inductive Status where
  | running | blocked | halted
  deriving DecidableEq, Repr

/-- The four flags (R24). -/
structure Flags where
  zf : Bool
  cf : Bool
  of : Bool
  sf : Bool
  deriving DecidableEq, Repr

/-- Memory as R37 lets a model keep it: the flat view as (address, byte) pairs, and the numbers of the allocated pages.
An address that no pair lists reads as `Memory.unlisted`; the canonical form is `Memory.wf` (Machine/Memory.lean). -/
structure Memory where
  cells : List Host.Cell
  pages : List Nat
  deriving DecidableEq, Repr

/-- The text a preview event carries (R318), kept unrendered so that a trace is plain data; `PreviewText.render`
(Machine/HostPort.lean) gives the text (log 6). -/
inductive PreviewText where
  /-- The opcode is ILLEGAL. -/
  | illegal
  /-- A mapped kind: DISASM's text of this word, or "not implemented" where DISASM has no entry. -/
  | ofWord (w : InstrWord)
  deriving DecidableEq, Repr

/-- The events of the trace port (R316). A halt event carries the error record whose ERROR_TEXT is its message, or none
where the message is absent (log 6). -/
inductive TraceEvent where
  | regRead (i : RegIdx) (v : Word)
  | regWrite (i : RegIdx) (v : Word)
  | memRead (a : Word) (n : Width) (v : Word)
  | memWrite (a : Word) (n : Width) (v : Word)
  | imageLoaded (words : List InstrWord)
  | preview (f : OperandField) (text : PreviewText)
  | halt (code : Word) (msg : Option ErrorRecord)
  | block
  | reset
  deriving DecidableEq, Repr

/-- The state of the block (R41), with the IODevice's queues (R273, R312), the trace port's record and the parameters of
the step relation (R6, R40) beside it. -/
structure State where
  /-- x[0] to x[255] (R20). Index 0 reads as 0 and is never written (R21). -/
  regs : Vector Word 256
  /-- ZF, CF, OF, SF (R24). -/
  flags : Flags
  /-- The instruction pointer: the address of the executing instruction (R28). -/
  pc : Word
  /-- IR, the last fetched word (R31). -/
  ir : InstrWord
  /-- The one-shot jumped flag (R32). -/
  jumped : Bool
  /-- RUNNING, BLOCKED or HALTED (R33). -/
  status : Status
  /-- The exit code (R34). -/
  exitCode : Word
  /-- NONE, or the record of the last error (R35). -/
  lastError : Option ErrorRecord
  /-- The page table, as its flat view and its allocated pages (R36, R37). -/
  mem : Memory
  /-- The IODevice outside the block (R273, R312; log 4). -/
  dev : IODevice
  /-- The events put on the trace port, newest first: the model's own field (R316; log 5). -/
  trace : List TraceEvent
  /-- The parameters: not state (R40), carried here because a step is a function of the state alone (log 1). -/
  cfg : Config
  deriving DecidableEq, Repr

/-- The reasons a step stops with a fault. There is none: every error of the spec halts the block, and a halt is a next
state (R305, R306). So no constructor stands here, and no step or transaction can answer a fault; that is safe (log 12). -/
inductive Fault where
  deriving DecidableEq, Repr

/-- The reasons the model refuses. -/
inductive Refusal where
  /-- Raised by `exec` for an instruction whose meaning is not written yet; safe. No arm raises it. -/
  | notModelled (mnemonic : String)
  /-- Raised by `loadImage` for an image of more than 2^62 words, which the spec's precondition excludes (R63, I14); safe. -/
  | imageTooLong
  /-- Raised by `loadImage` for an image that needs more pages than PAGE_CAPACITY leaves free: the spec refuses the load with
  no state change (R314, I14); safe. -/
  | imageDoesNotFit
  deriving DecidableEq, Repr

/-- The state after reset and after construction (R41, R330, R331), with the default parameters (R6), an IODevice that
holds nothing (log 4) and an empty trace (log 5). -/
def State.reset : State where
  regs := Vector.replicate 256 0#64
  flags := { zf := false, cf := false, of := false, sf := false }
  pc := 0
  ir := 0
  jumped := false
  status := .running
  exitCode := 0
  lastError := none
  mem := { cells := [], pages := [] }
  dev := { input := [], output := [] }
  trace := []
  cfg := refConfig

/-- What a meaning, a step or a transaction answers. -/
abbrev Result := Host.Outcome State Fault Refusal

end Sys2Proof.Machine
end

