-- ==== Sys2Proof/Machine/Memory.lean ====
section
/-!
DEFINITION. The virtual memory pager (20_memory.md): address decomposition, the byte store, allocation of pages, big-endian
values of 1 to 8 bytes, the checks of an access, and the canonical form of the store.
-/

namespace Sys2Proof.Machine

open Sys2Proof

/-- The bytes of a page, `PAGE_SIZE` (R6). -/
def pageSize : Nat := 1024

/-- `page(a)` (R51). -/
def pageOf (a : Word) : Nat := a.toNat / pageSize

/-- `offset(a)` (R51). -/
def offsetOf (a : Word) : Nat := a.toNat % pageSize

/-- The number of bytes of a width (R56). -/
def widthBytes : Width → Nat
  | .b1 => 1
  | .b2 => 2
  | .b3 => 3
  | .b4 => 4
  | .b5 => 5
  | .b6 => 6
  | .b7 => 7
  | .b8 => 8

/-- What an address that nothing lists reads as: all memory reads as zero until it is written (R36, R57). -/
def Memory.unlisted : Byte := 0

/-- The byte the list gives an address. -/
def cellAt : List Host.Cell → Nat → Byte
  | [], _ => Memory.unlisted
  | (c, b) :: m, a => if a = c then b else cellAt m a

/-- Set one byte of the list, which stays in canonical form: rising, and with no entry equal to what an unlisted address
reads as. -/
def setCell : List Host.Cell → Nat → Byte → List Host.Cell
  | [], a, b => if b = Memory.unlisted then [] else [(a, b)]
  | (c, d) :: m, a, b =>
    if a < c then (if b = Memory.unlisted then (c, d) :: m else (a, b) :: (c, d) :: m)
    else if a = c then (if b = Memory.unlisted then m else (a, b) :: m)
    else (c, d) :: setCell m a b

/-- Add a page to the allocated ones, which stay rising with no repeats (R59). -/
def addPage : List Nat → Nat → List Nat
  | [], p => [p]
  | q :: ps, p => if p < q then p :: q :: ps else if p = q then q :: ps else q :: addPage ps p

/-- The byte at an address of the flat view (R37). -/
def Memory.byte (m : Memory) (a : Nat) : Byte := cellAt m.cells a

/-- The canonical form. Cells rise strictly by address, lie in the address space, hold no byte an unlisted address reads
as, and lie in allocated pages; page numbers rise strictly and lie below 2^54 (R36). -/
abbrev Memory.wf (m : Memory) : Prop :=
  m.cells.Pairwise (fun p q => p.1 < q.1)
    ∧ (∀ p ∈ m.cells, p.1 < 2 ^ 64 ∧ p.2 ≠ Memory.unlisted ∧ p.1 / pageSize ∈ m.pages)
    ∧ m.pages.Pairwise (fun p q => p < q)
    ∧ ∀ p ∈ m.pages, p < 2 ^ 54

/-- The big-endian value of the `n` bytes from address `a` on (R52, R55). -/
def bytesValue (m : Memory) (a : Nat) : Nat → Word
  | 0 => 0
  | n + 1 => (bytesValue m a n <<< 8) ||| (m.byte (a + n)).setWidth 64

/-- The list with the low `8 n` bits of `v` stored big-endian in the `n` bytes from address `a` on (R52, R58). -/
def storeCells (cells : List Host.Cell) (a : Nat) : Nat → Word → List Host.Cell
  | 0, _ => cells
  | n + 1, v => setCell (storeCells cells a n (v >>> 8)) (a + n) (v.setWidth 8)

/-- The value of an access that passes its checks: zero-extended, no allocation (R55, R57). -/
def Memory.read (m : Memory) (a : Word) (n : Width) : Word := bytesValue m a.toNat (widthBytes n)

/-- The memory after a write that passes its checks: its page allocated, its bytes stored (R58, R59). -/
def Memory.write (m : Memory) (a : Word) (n : Width) (v : Word) : Memory where
  cells := storeCells m.cells a.toNat (widthBytes n) v
  pages := addPage m.pages (pageOf a)

/-- A write to `a` needs a new page that `PAGE_CAPACITY` does not leave (R58, R62; log 10). -/
def Memory.pageFails (capacity : Option Nat) (m : Memory) (a : Word) : Bool :=
  !m.pages.contains (pageOf a) && capacity == some m.pages.length

/-- The alignment and the bounds check of an access, alignment first (R53, R54, R55, R58). -/
def accessError (a : Word) (n : Width) : Option ErrorRecord :=
  if offsetOf a % widthBytes n ≠ 0 then some (.memoryMisaligned a n)
  else if offsetOf a + widthBytes n > pageSize then some (.memoryOutOfBounds a n)
  else none

end Sys2Proof.Machine
end

