-- ==== Sys2Proof/Machine/Ops.lean ====
section
/-!
DEFINITION. The named operations every meaning is built of: the trace port, registers, flags, control transfer, taking a
fault, the memory primitives, halting, the IODevice port, and the parts of the step around a meaning. An operation that can
fault, or that reads and so emits an event, takes what follows it as a continuation `k`, so that a meaning reads in the order
of its rule's pseudocode (R14).
-/

namespace Sys2Proof.Machine

open Sys2Proof

/-! ### The trace port (R316) -/

/-- `emit E` (R13): put an event on the trace port. -/
def State.emit (s : State) (e : TraceEvent) : State := { s with trace := e :: s.trace }

/-! ### Registers (R11, R20, R21) -/

/-- The value a read of `x[i]` yields: `x[0]` always yields 0 (R11, R21). -/
def State.reg (s : State) (i : RegIdx) : Word := if i = 0#8 then 0 else s.regs[i.toNat]'i.isLt

/-- The register file with `v` stored in `x[i]`; a write to `x[0]` is discarded (R21). -/
def State.setReg (s : State) (i : RegIdx) (v : Word) : State :=
  if i = 0#8 then s else { s with regs := s.regs.set i.toNat v i.isLt }

/-- `x[i]` as a source: the value, and its RegReadEvent (R317). -/
def readReg (i : RegIdx) (s : State) (k : Word → State → Result) : Result :=
  k (s.reg i) (s.emit (.regRead i (s.reg i)))

/-- `x[i] <- v`: the RegWriteEvent with the value requested, then the write (R317, R21). -/
def State.writeReg (s : State) (i : RegIdx) (v : Word) : State := (s.emit (.regWrite i v)).setReg i v

/-! ### Flags, pc, IR and status -/

/-- All four flags replaced. -/
def State.setFlags (s : State) (f : Flags) : State := { s with flags := f }

/-- `ZF <- b`, the other flags kept (R24). -/
def State.setZf (s : State) (b : Bool) : State := s.setFlags { s.flags with zf := b }

/-- `jump(target)` (R13): set pc and mark jumped. -/
def State.jumpTo (s : State) (target : Word) : State := { s with pc := target, jumped := true }

/-- `incrementIP` (R29). -/
def State.incrementIP (s : State) : State :=
  if s.jumped then { s with jumped := false } else { s with pc := s.pc + 4#64 }

/-- `IR <- w` (R31, R111). -/
def State.setIr (s : State) (w : InstrWord) : State := { s with ir := w }

/-- Set the run status (R33). -/
def State.setStatus (s : State) (st : Status) : State := { s with status := st }

/-- Replace the memory. -/
def State.setMem (s : State) (m : Memory) : State := { s with mem := m }

/-- Replace the IODevice's queues. -/
def State.setDev (s : State) (d : IODevice) : State := { s with dev := d }

/-! ### Faults (R300, R305) -/

/-- The numeric code of an error record (R300). -/
def recordCode : ErrorRecord → Nat
  | .illegalInstruction _ _ => 1
  | .memoryMisaligned _ _ => 2
  | .memoryOutOfBounds _ _ => 3
  | .arithmeticFault _ => 4
  | .registerIndexOutOfRange _ => 5
  | .pageAllocFailure _ _ => 6
  | .invalidField _ => 7

/-- The code `lastError` shows: 0 for NONE (R300). -/
def errorCode : Option ErrorRecord → Nat
  | none => 0
  | some e => recordCode e

/-- What a fault does to the state (R305): halt, record the error, emit the halt event with the stale exit code, and
nothing else. -/
def State.faulted (s : State) (e : ErrorRecord) : State :=
  { s with status := .halted, lastError := some e }.emit (.halt s.exitCode (some e))

/-- `raise Fault(kind, info)` (R13, R305): the instruction ends here, in the next state of the fault. -/
def raise (e : ErrorRecord) (s : State) : Result := .next (s.faulted e)

/-! ### The memory primitives (R55, R58) -/

/-- `MemRead(a, n)` (R55): the checks, the value, the event. -/
def memRead (a : Word) (n : Width) (s : State) (k : Word → State → Result) : Result :=
  match accessError a n with
  | some e => raise e s
  | none => k (s.mem.read a n) (s.emit (.memRead a n (s.mem.read a n)))

/-- `MemWrite(a, n, v)` (R58): the checks, the capacity, the allocation and the store, the event with the value requested. -/
def memWrite (a : Word) (n : Width) (v : Word) (s : State) (k : State → Result) : Result :=
  match accessError a n with
  | some e => raise e s
  | none =>
    if Memory.pageFails s.cfg.pageCapacity s.mem a then raise (.pageAllocFailure a n) s
    else k ((s.setMem (s.mem.write a n v)).emit (.memWrite a n v))

/-! ### Halting (R270, R271) -/

/-- A halt instruction's writes: `exitCode <- code; lastError <- NONE; status <- HALTED`. -/
def State.haltWith (s : State) (code : Word) : State :=
  { s with exitCode := code, lastError := none, status := .halted }

/-! ### The IODevice port (R273, R312) -/

/-- `hasNextChar()`. -/
def deviceHasNextChar (d : IODevice) : Bool := !d.input.isEmpty

/-- `getc()`: the character at the head of the input, and the device without it; called only when there is one. -/
def deviceGetc (d : IODevice) : Byte × IODevice := (d.input.headD 0, { d with input := d.input.tail })

/-- `putc(c)`: the character appended to the output. -/
def devicePutc (d : IODevice) (c : Byte) : IODevice := { d with output := d.output ++ [c] }

/-- The block's call of `putc(c)` (R273): unconditional. -/
def State.putChar (s : State) (c : Byte) : State := s.setDev (devicePutc s.dev c)

/-! ### The parts of the step around a meaning (R111 to R117, R318) -/

/-- The preview of the word at `p` (R318): no memory event, no allocation, no fault, no preview where `p` is misaligned. -/
def State.preview (s : State) (p : Word) : State :=
  if p.toNat % 4 ≠ 0 then s
  else
    let w : InstrWord := (s.mem.read p .b4).setWidth 32
    s.emit (.preview (fieldBits w)
      (match s.cfg.opmap.kindAt (opcodeBits w) with
       | some _ => .ofWord w
       | none => .illegal))

/-- The fetch (R111): `w <- MemRead(pc, 4); IR <- w`. -/
def fetch (s : State) (k : InstrWord → State → Result) : Result :=
  memRead s.pc .b4 s fun v s => k (v.setWidth 32) (s.setIr (v.setWidth 32))

/-- An illegal opcode (R113): the fault IllegalInstruction with the opcode byte and pc. -/
def illegalOpcode (w : InstrWord) (s : State) : Result := raise (.illegalInstruction (opcodeBits w) s.pc) s

/-- The end of the step after the meaning (R115 to R117, R123). A natural halt leaves lastError NONE and its halt event is
emitted here; a fault has ended the step with its own halt event already (R305; log 14). -/
def State.endStep (s : State) : State :=
  match s.status with
  | .halted => if s.lastError = none then s.emit (.halt s.exitCode none) else s
  | .blocked => s.emit .block
  | .running => s.incrementIP.preview s.incrementIP.pc

/-- The end of the step for every outcome of the meaning. -/
def finishStep : Result → Result
  | .next s => .next s.endStep
  | .fault r => .fault r
  | .refused r => .refused r

/-- Put a word where the next fetch reads it: its four bytes stored big-endian at pc, whose low two bits are cleared, its
page allocated, and the status RUNNING, so that the fetch takes place (log 3). -/
def State.withWordAtPc (s : State) (w : InstrWord) : State :=
  let a : Word := s.pc &&& ~~~3#64
  { s with mem := s.mem.write a .b4 (w.setWidth 64), pc := a, status := .running }

end Sys2Proof.Machine
end

