-- ==== Sys2Proof/Machine/Operands.lean ====
section
/-!
DEFINITION. How an instruction gets at its operands: effective addresses (R180, R182), the extension of loaded values
(R181), and the results of shifts (R133).
-/

namespace Sys2Proof.Machine

open Sys2Proof

/-! ### Extension of memory data (R10, R181) -/

/-- `zext_n(v)` for the low `n` bits of a value read from memory. -/
def zextLow (n : Nat) (v : Word) : Word := (v.setWidth n).setWidth 64

/-- `sext_n(v)` for the low `n` bits of a value read from memory. -/
def sextLow (n : Nat) (v : Word) : Word := (v.setWidth n).signExtend 64

/-- LD8's extension: none. -/
def plainValue (v : Word) : Word := v

/-! ### Effective addresses -/

/-- The index of the scaled mode under the scale rule (R182). -/
def scaledIndex (rule : ScaleRule) (index : Word) (scale : Nat) : Word :=
  match rule with
  | .stride => index * BitVec.ofNat 64 scale
  | .literalShift => index <<< ((8 * scale) % 64)

/-- The displacement mode: `ea <- F.sX + x[F.rY]`, modulo 2^64 (R180). -/
def dispAddress (d : Word) (y : RegIdx) (s : State) (k : Word → State → Result) : Result :=
  readReg y s fun base s => k (d + base) s

/-- The scaled mode: `ea <- x[F.rX] + scaled(x[F.rY], scale)`, modulo 2^64 (R182). -/
def scaledAddress (scale : Nat) (x y : RegIdx) (s : State) (k : Word → State → Result) : Result :=
  readReg x s fun base s => readReg y s fun index s => k (base + scaledIndex s.cfg.scaleRule index scale) s

/-! ### Shift results (R133)

A count of 64 or more is possible under MATHEMATICAL only; the result is then 0, or 64 copies of the sign bit. -/

/-- `cnt(a)` (R133). -/
def shiftCount (mode : ShiftMode) (a : Word) : Nat :=
  match mode with
  | .masked6 => a.toNat % 64
  | .mathematical => a.toNat

/-- `v << cnt(a)`. -/
def shiftLeft (mode : ShiftMode) (v a : Word) : Word :=
  if shiftCount mode a < 64 then v <<< shiftCount mode a else 0

/-- `v >>u cnt(a)`. -/
def shiftRightLogical (mode : ShiftMode) (v a : Word) : Word :=
  if shiftCount mode a < 64 then v >>> shiftCount mode a else 0

/-- `v >>s cnt(a)`. -/
def shiftRightArith (mode : ShiftMode) (v a : Word) : Word :=
  if shiftCount mode a < 64 then v.sshiftRight (shiftCount mode a) else if v.msb then BitVec.allOnes 64 else 0

end Sys2Proof.Machine
end

