-- ==== Sys2Proof/Machine/Flags.lean ====
section
/-!
DEFINITION. Every flag computation of the spec (R25): the zero flag of loads and logic, the four flags of add and subtract,
the carry of shift-left, the overflow of multiply; and the conditions of the conditional jumps, the only flag readers (R26).
-/

namespace Sys2Proof.Machine

open Sys2Proof

/-- `v == 0`. -/
def isZero (v : Word) : Bool := v == 0

/-- The flags of `z = x + y` (R150). -/
def addFlags (x y z : Word) : Flags where
  zf := isZero z
  cf := z.ult x || z.ult y
  of := x.msb == y.msb && z.msb != x.msb
  sf := z.msb

/-- The flags of `z = y - x` (R152): x is the subtrahend. -/
def subFlags (x y z : Word) : Flags where
  zf := isZero z
  cf := y.ult z
  of := (decide (0 ≤ x.toInt) && decide (y.toInt < 0) && decide (0 ≤ z.toInt))
    || (decide (x.toInt < 0) && decide (0 ≤ y.toInt) && decide (z.toInt < 0))
  sf := z.msb

/-- `carryCond(a)` (R133): whether a shift-left by `a` writes CF. -/
def shlWritesCarry (mode : ShiftMode) (a : Word) : Bool :=
  match mode with
  | .masked6 => decide (a.toInt < 64)
  | .mathematical => decide (a.toNat < 64)

/-- `carryBit(v, a)` (R133). -/
def shlCarryBit (mode : ShiftMode) (v a : Word) : Bool :=
  match mode with
  | .masked6 => v.getLsbD ((((64 : Int) - a.toNat) % 64).toNat)
  | .mathematical => if a.toNat = 0 then false else v.getLsbD (64 - a.toNat)

/-- The flags after a shift-left of `v` by `a` (R134): CF only, and only where carryCond holds. -/
def shlFlags (mode : ShiftMode) (v a : Word) (f : Flags) : Flags :=
  if shlWritesCarry mode a then { f with cf := shlCarryBit mode v a } else f

/-- `ovf` of the exact product `p` (R154). -/
def mulOverflow (mode : MulOvfMode) (p : Int) : Bool :=
  match mode with
  | .highNonzero => p / (2 : Int) ^ 64 != 0
  | .signedFit => decide (p < -(2 : Int) ^ 63) || decide ((2 : Int) ^ 63 - 1 < p)

/-- The flags after a multiply (R154): CF and OF only. -/
def mulFlags (mode : MulFlagMode) (ovf : Bool) (f : Flags) : Flags :=
  match mode with
  | .setOnly => if ovf then { f with cf := true, of := true } else f
  | .assign => { f with cf := ovf, of := ovf }

/-! ### The jump conditions (R253 to R262) -/

/-- `¬CF ∧ ¬ZF` (R253). -/
def condA (f : Flags) : Bool := !f.cf && !f.zf

/-- `CF ∨ ZF` (R254). -/
def condBE (f : Flags) : Bool := f.cf || f.zf

/-- `¬CF` (R255). -/
def condAE (f : Flags) : Bool := !f.cf

/-- `CF` (R256). -/
def condB (f : Flags) : Bool := f.cf

/-- `¬ZF ∧ (SF = OF)` (R257). -/
def condG (f : Flags) : Bool := !f.zf && f.sf == f.of

/-- `ZF ∨ (SF ≠ OF)` (R258). -/
def condLE (f : Flags) : Bool := f.zf || f.sf != f.of

/-- `SF = OF` (R259). -/
def condGE (f : Flags) : Bool := f.sf == f.of

/-- `SF ≠ OF` (R260). -/
def condL (f : Flags) : Bool := f.sf != f.of

/-- `ZF` (R261). -/
def condZ (f : Flags) : Bool := f.zf

/-- `¬ZF` (R262). -/
def condNZ (f : Flags) : Bool := !f.zf

end Sys2Proof.Machine
end

