-- ==== Sys2Proof/Machine/Arithmetic.lean ====
section
/-!
DEFINITION. Integer arithmetic (42_arithmetic.md, R150 to R163). Values are computed exactly and narrowed at the end.
-/

namespace Sys2Proof.Machine

open Sys2Proof

/-- `z = x + y` with its four flags, into `x[z]` (R150). -/
def addInto (x y : Word) (z : RegIdx) (s : State) : Result :=
  .next ((s.setFlags (addFlags x y (x + y))).writeReg z (x + y))

/-- `z = y - x` with its four flags, into `x[z]` (R152). -/
def subInto (x y : Word) (z : RegIdx) (s : State) : Result :=
  .next ((s.setFlags (subFlags x y (y - x))).writeReg z (y - x))

/-- ADD_RR, `add %x, %y, %z` (R150). -/
def execAddRR (x y z : RegIdx) (s : State) : Result :=
  readReg x s fun a s => readReg y s fun b s => addInto a b z s

/-- ADD_IR, `add $uX, %y, %z` (R151). -/
def execAddIR (u : Word) (y z : RegIdx) (s : State) : Result := readReg y s fun b s => addInto u b z s

/-- SUB_RR, `sub %x, %y, %z` (R152). -/
def execSubRR (x y z : RegIdx) (s : State) : Result :=
  readReg x s fun a s => readReg y s fun b s => subInto a b z s

/-- SUB_IR, `sub $uX, %y, %z` (R153). -/
def execSubIR (u : Word) (y z : RegIdx) (s : State) : Result := readReg y s fun b s => subInto u b z s

/-- The exact product of the signed values (R154). -/
def signedProduct (x y : Word) : Int := x.toInt * y.toInt

/-- The low 64 bits of the product into `x[z]`, CF and OF by R154; the high word goes nowhere (R155). -/
def mulInto (x y : Word) (z : RegIdx) (s : State) : Result :=
  .next ((s.writeReg z (BitVec.ofInt 64 (signedProduct x y))).setFlags
    (mulFlags s.cfg.mulFlagMode (mulOverflow s.cfg.mulOvfMode (signedProduct x y)) s.flags))

/-- MUL_RR, `mul %x, %y, %z` (R155). -/
def execMulRR (x y z : RegIdx) (s : State) : Result :=
  readReg x s fun a s => readReg y s fun b s => mulInto a b z s

/-- MUL_RI, `mul %x, $sY, %z` (R156). -/
def execMulRI (x : RegIdx) (v : Word) (z : RegIdx) (s : State) : Result := readReg x s fun a s => mulInto a v z s

/-- `DivU(d, r, q)` (R157): the index check, the reads of the pair, the zero check, the three writes. -/
def divU (d : Word) (r q : RegIdx) (s : State) : Result :=
  if 255 < r.toNat + 1 ∨ 255 < q.toNat + 2 then raise (.registerIndexOutOfRange [r, q]) s
  else
    readReg r s fun lo s => readReg (r + 1) s fun hi s =>
      if d.toNat = 0 then raise (.arithmeticFault .divideByZero) s
      else
        let n : Nat := hi.toNat * 2 ^ 64 + lo.toNat
        let quot : Nat := n / d.toNat
        .next (((s.writeReg q (BitVec.ofNat 64 quot)).writeReg (q + 1) (BitVec.ofNat 64 (quot / 2 ^ 64))).writeReg
          (q + 2) (BitVec.ofNat 64 (n - quot * d.toNat)))

/-- DIVU_RR, `divu %x, %y, %z` (R158): the divisor is read before the index check. -/
def execDivuRR (x y z : RegIdx) (s : State) : Result := readReg x s fun d s => divU d y z s

/-- DIVU_IR, `divu $uX, %y, %z` (R159). -/
def execDivuIR (u : Word) (y z : RegIdx) (s : State) : Result := divU u y z s

/-- The quotient of a signed division, truncated toward zero (R160). -/
def signedQuotient (n d : Int) : Int :=
  let mag : Int := (n.natAbs / d.natAbs : Nat)
  if n.sign = d.sign ∨ mag = 0 then mag else -mag

/-- `DivS(d, n, q)` (R160): the index check, the zero check, the two writes. -/
def divS (d n : Word) (q : RegIdx) (s : State) : Result :=
  if 255 < q.toNat + 1 then raise (.registerIndexOutOfRange [q]) s
  else if d.toInt = 0 then raise (.arithmeticFault .divideByZero) s
  else
    let quot : Int := signedQuotient n.toInt d.toInt
    .next ((s.writeReg q (BitVec.ofInt 64 quot)).writeReg (q + 1) (BitVec.ofInt 64 (n.toInt - d.toInt * quot)))

/-- IDIV_RR, `idiv %x, %y, %z` (R161). -/
def execIdivRR (x y z : RegIdx) (s : State) : Result :=
  readReg x s fun d s => readReg y s fun n s => divS d n z s

/-- IDIV_IR, `idiv $sX, %y, %z` (R162). -/
def execIdivIR (v : Word) (y z : RegIdx) (s : State) : Result := readReg y s fun n s => divS v n z s

end Sys2Proof.Machine
end

