-- ==== Sys2Proof/Machine/ControlTransfer.lean ====
section
/-!
DEFINITION. Control transfer (45_control_transfer.md, R250 to R265).
-/

namespace Sys2Proof.Machine

open Sys2Proof

/-- JMP_ABS, `jmp %x, %y` (R250): the link is written before the target is read. -/
def execJmpAbs (x y : RegIdx) (s : State) : Result :=
  readReg x (s.writeReg y (s.pc + 4#64)) fun t s => .next (s.jumpTo t)

/-- `pc + 4 * sXYZ`, modulo 2^64 (R251). -/
def relativeTarget (pc v : Word) : Word := pc + 4#64 * v

/-- The relative jump, taken or not (R251, R265). -/
def jumpRelativeIf (taken : Bool) (v : Word) (s : State) : Result :=
  .next (if taken then s.jumpTo (relativeTarget s.pc v) else s)

/-- JMP, `jmp $sXYZ` (R252). -/
def execJmp (v : Word) (s : State) : Result := jumpRelativeIf true v s

/-- JA, `ja $sXYZ` (R253). -/
def execJa (v : Word) (s : State) : Result := jumpRelativeIf (condA s.flags) v s

/-- JBE, `jbe $sXYZ` (R254). -/
def execJbe (v : Word) (s : State) : Result := jumpRelativeIf (condBE s.flags) v s

/-- JAE, `jae $sXYZ` (R255). -/
def execJae (v : Word) (s : State) : Result := jumpRelativeIf (condAE s.flags) v s

/-- JB, `jb $sXYZ` (R256). -/
def execJb (v : Word) (s : State) : Result := jumpRelativeIf (condB s.flags) v s

/-- JG, `jg $sXYZ` (R257). -/
def execJg (v : Word) (s : State) : Result := jumpRelativeIf (condG s.flags) v s

/-- JLE, `jle $sXYZ` (R258). -/
def execJle (v : Word) (s : State) : Result := jumpRelativeIf (condLE s.flags) v s

/-- JGE, `jge $sXYZ` (R259). -/
def execJge (v : Word) (s : State) : Result := jumpRelativeIf (condGE s.flags) v s

/-- JL, `jl $sXYZ` (R260). -/
def execJl (v : Word) (s : State) : Result := jumpRelativeIf (condL s.flags) v s

/-- JZ, `jz $sXYZ` (R261). -/
def execJz (v : Word) (s : State) : Result := jumpRelativeIf (condZ s.flags) v s

/-- JNZ, `jnz $sXYZ` (R262). -/
def execJnz (v : Word) (s : State) : Result := jumpRelativeIf (condNZ s.flags) v s

end Sys2Proof.Machine
end

