-- ==== Sys2Proof/Machine/LoadShift.lean ====
section
/-!
DEFINITION. Immediate loads and shifts (41_load_shift.md, R130 to R140).
-/

namespace Sys2Proof.Machine

open Sys2Proof

/-- `x[z] <- v; ZF <- (v == 0)`: the end of every immediate load and logic operation (R130, R170). -/
def writeWithZf (z : RegIdx) (v : Word) (s : State) : Result := .next ((s.writeReg z v).setZf (isZero v))

/-- LDIU, `ldiu $uXY, %z` (R130). -/
def execLdiu (u : Word) (z : RegIdx) (s : State) : Result := writeWithZf z u s

/-- LDIS, `ldis $sXY, %z` (R131). -/
def execLdis (v : Word) (z : RegIdx) (s : State) : Result := writeWithZf z v s

/-- SHLDI, `shldi $uXY, %z` (R132): `v <- (old << 16) + uXY`. -/
def execShldi (u : Word) (z : RegIdx) (s : State) : Result :=
  readReg z s fun old s => writeWithZf z ((old <<< 16) + u) s

/-- Shift-left of `v` by `a` into `x[z]`, with its carry (R134). -/
def shiftLeftInto (a v : Word) (z : RegIdx) (s : State) : Result :=
  .next ((s.setFlags (shlFlags s.cfg.shiftMode v a s.flags)).writeReg z (shiftLeft s.cfg.shiftMode v a))

/-- SHL_RR, `shl %x, %y, %z` (R134). -/
def execShlRR (x y z : RegIdx) (s : State) : Result :=
  readReg x s fun a s => readReg y s fun v s => shiftLeftInto a v z s

/-- SHL_IR, `shl $uX, %y, %z` (R135). -/
def execShlIR (u : Word) (y z : RegIdx) (s : State) : Result := readReg y s fun v s => shiftLeftInto u v z s

/-- SHR_RR, `shr %x, %y, %z` (R137): no flag. -/
def execShrRR (x y z : RegIdx) (s : State) : Result :=
  readReg x s fun a s => readReg y s fun v s => .next (s.writeReg z (shiftRightLogical s.cfg.shiftMode v a))

/-- SHR_IR, `shr $uX, %y, %z` (R138): no flag. -/
def execShrIR (u : Word) (y z : RegIdx) (s : State) : Result :=
  readReg y s fun v s => .next (s.writeReg z (shiftRightLogical s.cfg.shiftMode v u))

/-- SAR_RR, `sar %x, %y, %z` (R139): no flag. -/
def execSarRR (x y z : RegIdx) (s : State) : Result :=
  readReg x s fun a s => readReg y s fun v s => .next (s.writeReg z (shiftRightArith s.cfg.shiftMode v a))

/-- SAR_IR, `sar $uX, %y, %z` (R140): no flag. -/
def execSarIR (u : Word) (y z : RegIdx) (s : State) : Result :=
  readReg y s fun v s => .next (s.writeReg z (shiftRightArith s.cfg.shiftMode v u))

end Sys2Proof.Machine
end

