-- ==== Sys2Proof/Machine/Logic.lean ====
section
/-!
DEFINITION. Bitwise logic (43_logic.md, R170 to R173).
-/

namespace Sys2Proof.Machine

open Sys2Proof

/-- AND_RR, `and %x, %y, %z` (R170). -/
def execAndRR (x y z : RegIdx) (s : State) : Result :=
  readReg x s fun a s => readReg y s fun b s => writeWithZf z (a &&& b) s

/-- OR_RR, `or %x, %y, %z` (R171). -/
def execOrRR (x y z : RegIdx) (s : State) : Result :=
  readReg x s fun a s => readReg y s fun b s => writeWithZf z (a ||| b) s

/-- NOT, `not %x, %y` (R172): the destination is rY. -/
def execNotRR (x y : RegIdx) (s : State) : Result := readReg x s fun a s => writeWithZf y (~~~a) s

end Sys2Proof.Machine
end

