-- ==== Sys2Proof/Machine/MemoryAccess.lean ====
section
/-!
DEFINITION. Memory access (44_memory_access.md, R180 to R239): the grid of 11 operations in 5 addressing modes. Every kind
is one of the two shared operations at the address its mode gives.
-/

namespace Sys2Proof.Machine

open Sys2Proof

/-- A fetch of width `n` at `ea`, extended by `ext`, into `x[z]` (R181). -/
def loadAt (n : Width) (ext : Word → Word) (z : RegIdx) (ea : Word) (s : State) : Result :=
  memRead ea n s fun v s => .next (s.writeReg z (ext v))

/-- A store of the low bits of `x[z]`, width `n`, at `ea` (R183). -/
def storeAt (n : Width) (z : RegIdx) (ea : Word) (s : State) : Result :=
  readReg z s fun v s => memWrite ea n v s .next

/-! ### Displacement mode (R180) -/

/-- LDU1_D, `ldu1 $sX(%y), %z` (R185). -/
def execLdu1D (d : Word) (y z : RegIdx) (s : State) : Result := dispAddress d y s (loadAt .b1 (zextLow 8) z)

/-- LDU2_D, `ldu2 $sX(%y), %z` (R186). -/
def execLdu2D (d : Word) (y z : RegIdx) (s : State) : Result := dispAddress d y s (loadAt .b2 (zextLow 16) z)

/-- LDU4_D, `ldu4 $sX(%y), %z` (R187). -/
def execLdu4D (d : Word) (y z : RegIdx) (s : State) : Result := dispAddress d y s (loadAt .b4 (zextLow 32) z)

/-- LD8_D, `ld8 $sX(%y), %z` (R188). -/
def execLd8D (d : Word) (y z : RegIdx) (s : State) : Result := dispAddress d y s (loadAt .b8 plainValue z)

/-- LDS1_D, `lds1 $sX(%y), %z` (R189). -/
def execLds1D (d : Word) (y z : RegIdx) (s : State) : Result := dispAddress d y s (loadAt .b1 (sextLow 8) z)

/-- LDS2_D, `lds2 $sX(%y), %z` (R190). -/
def execLds2D (d : Word) (y z : RegIdx) (s : State) : Result := dispAddress d y s (loadAt .b2 (sextLow 16) z)

/-- LDS4_D, `lds4 $sX(%y), %z` (R191). -/
def execLds4D (d : Word) (y z : RegIdx) (s : State) : Result := dispAddress d y s (loadAt .b4 (sextLow 32) z)

/-- ST1_D, `st1 %z, $sX(%y)` (R192). -/
def execSt1D (d : Word) (y z : RegIdx) (s : State) : Result := dispAddress d y s (storeAt .b1 z)

/-- ST2_D, `st2 %z, $sX(%y)` (R193). -/
def execSt2D (d : Word) (y z : RegIdx) (s : State) : Result := dispAddress d y s (storeAt .b2 z)

/-- ST4_D, `st4 %z, $sX(%y)` (R194). -/
def execSt4D (d : Word) (y z : RegIdx) (s : State) : Result := dispAddress d y s (storeAt .b4 z)

/-- ST8_D, `st8 %z, $sX(%y)` (R195). -/
def execSt8D (d : Word) (y z : RegIdx) (s : State) : Result := dispAddress d y s (storeAt .b8 z)

/-! ### Scaled mode, scale 1 (R182) -/

/-- LDU1_S1, `ldu1 (%x, %y, 1), %z` (R196). -/
def execLdu1S1 (x y z : RegIdx) (s : State) : Result := scaledAddress 1 x y s (loadAt .b1 (zextLow 8) z)

/-- LDU2_S1, `ldu2 (%x, %y, 1), %z` (R197). -/
def execLdu2S1 (x y z : RegIdx) (s : State) : Result := scaledAddress 1 x y s (loadAt .b2 (zextLow 16) z)

/-- LDU4_S1, `ldu4 (%x, %y, 1), %z` (R198). -/
def execLdu4S1 (x y z : RegIdx) (s : State) : Result := scaledAddress 1 x y s (loadAt .b4 (zextLow 32) z)

/-- LD8_S1, `ld8 (%x, %y, 1), %z` (R199). -/
def execLd8S1 (x y z : RegIdx) (s : State) : Result := scaledAddress 1 x y s (loadAt .b8 plainValue z)

/-- LDS1_S1, `lds1 (%x, %y, 1), %z` (R200). -/
def execLds1S1 (x y z : RegIdx) (s : State) : Result := scaledAddress 1 x y s (loadAt .b1 (sextLow 8) z)

/-- LDS2_S1, `lds2 (%x, %y, 1), %z` (R201). -/
def execLds2S1 (x y z : RegIdx) (s : State) : Result := scaledAddress 1 x y s (loadAt .b2 (sextLow 16) z)

/-- LDS4_S1, `lds4 (%x, %y, 1), %z` (R202). -/
def execLds4S1 (x y z : RegIdx) (s : State) : Result := scaledAddress 1 x y s (loadAt .b4 (sextLow 32) z)

/-- ST1_S1, `st1 %z, (%x, %y, 1)` (R203). -/
def execSt1S1 (x y z : RegIdx) (s : State) : Result := scaledAddress 1 x y s (storeAt .b1 z)

/-- ST2_S1, `st2 %z, (%x, %y, 1)` (R204). -/
def execSt2S1 (x y z : RegIdx) (s : State) : Result := scaledAddress 1 x y s (storeAt .b2 z)

/-- ST4_S1, `st4 %z, (%x, %y, 1)` (R205). -/
def execSt4S1 (x y z : RegIdx) (s : State) : Result := scaledAddress 1 x y s (storeAt .b4 z)

/-- ST8_S1, `st8 %z, (%x, %y, 1)` (R206). -/
def execSt8S1 (x y z : RegIdx) (s : State) : Result := scaledAddress 1 x y s (storeAt .b8 z)

/-! ### Scaled mode, scale 2 (R182) -/

/-- LDU1_S2, `ldu1 (%x, %y, 2), %z` (R207). -/
def execLdu1S2 (x y z : RegIdx) (s : State) : Result := scaledAddress 2 x y s (loadAt .b1 (zextLow 8) z)

/-- LDU2_S2, `ldu2 (%x, %y, 2), %z` (R208). -/
def execLdu2S2 (x y z : RegIdx) (s : State) : Result := scaledAddress 2 x y s (loadAt .b2 (zextLow 16) z)

/-- LDU4_S2, `ldu4 (%x, %y, 2), %z` (R209). -/
def execLdu4S2 (x y z : RegIdx) (s : State) : Result := scaledAddress 2 x y s (loadAt .b4 (zextLow 32) z)

/-- LD8_S2, `ld8 (%x, %y, 2), %z` (R210). -/
def execLd8S2 (x y z : RegIdx) (s : State) : Result := scaledAddress 2 x y s (loadAt .b8 plainValue z)

/-- LDS1_S2, `lds1 (%x, %y, 2), %z` (R211). -/
def execLds1S2 (x y z : RegIdx) (s : State) : Result := scaledAddress 2 x y s (loadAt .b1 (sextLow 8) z)

/-- LDS2_S2, `lds2 (%x, %y, 2), %z` (R212). -/
def execLds2S2 (x y z : RegIdx) (s : State) : Result := scaledAddress 2 x y s (loadAt .b2 (sextLow 16) z)

/-- LDS4_S2, `lds4 (%x, %y, 2), %z` (R213). -/
def execLds4S2 (x y z : RegIdx) (s : State) : Result := scaledAddress 2 x y s (loadAt .b4 (sextLow 32) z)

/-- ST1_S2, `st1 %z, (%x, %y, 2)` (R214). -/
def execSt1S2 (x y z : RegIdx) (s : State) : Result := scaledAddress 2 x y s (storeAt .b1 z)

/-- ST2_S2, `st2 %z, (%x, %y, 2)` (R215). -/
def execSt2S2 (x y z : RegIdx) (s : State) : Result := scaledAddress 2 x y s (storeAt .b2 z)

/-- ST4_S2, `st4 %z, (%x, %y, 2)` (R216). -/
def execSt4S2 (x y z : RegIdx) (s : State) : Result := scaledAddress 2 x y s (storeAt .b4 z)

/-- ST8_S2, `st8 %z, (%x, %y, 2)` (R217). -/
def execSt8S2 (x y z : RegIdx) (s : State) : Result := scaledAddress 2 x y s (storeAt .b8 z)

/-! ### Scaled mode, scale 4 (R182) -/

/-- LDU1_S4, `ldu1 (%x, %y, 4), %z` (R218). -/
def execLdu1S4 (x y z : RegIdx) (s : State) : Result := scaledAddress 4 x y s (loadAt .b1 (zextLow 8) z)

/-- LDU2_S4, `ldu2 (%x, %y, 4), %z` (R219). -/
def execLdu2S4 (x y z : RegIdx) (s : State) : Result := scaledAddress 4 x y s (loadAt .b2 (zextLow 16) z)

/-- LDU4_S4, `ldu4 (%x, %y, 4), %z` (R220). -/
def execLdu4S4 (x y z : RegIdx) (s : State) : Result := scaledAddress 4 x y s (loadAt .b4 (zextLow 32) z)

/-- LD8_S4, `ld8 (%x, %y, 4), %z` (R221). -/
def execLd8S4 (x y z : RegIdx) (s : State) : Result := scaledAddress 4 x y s (loadAt .b8 plainValue z)

/-- LDS1_S4, `lds1 (%x, %y, 4), %z` (R222). -/
def execLds1S4 (x y z : RegIdx) (s : State) : Result := scaledAddress 4 x y s (loadAt .b1 (sextLow 8) z)

/-- LDS2_S4, `lds2 (%x, %y, 4), %z` (R223). -/
def execLds2S4 (x y z : RegIdx) (s : State) : Result := scaledAddress 4 x y s (loadAt .b2 (sextLow 16) z)

/-- LDS4_S4, `lds4 (%x, %y, 4), %z` (R224). -/
def execLds4S4 (x y z : RegIdx) (s : State) : Result := scaledAddress 4 x y s (loadAt .b4 (sextLow 32) z)

/-- ST1_S4, `st1 %z, (%x, %y, 4)` (R225). -/
def execSt1S4 (x y z : RegIdx) (s : State) : Result := scaledAddress 4 x y s (storeAt .b1 z)

/-- ST2_S4, `st2 %z, (%x, %y, 4)` (R226). -/
def execSt2S4 (x y z : RegIdx) (s : State) : Result := scaledAddress 4 x y s (storeAt .b2 z)

/-- ST4_S4, `st4 %z, (%x, %y, 4)` (R227). -/
def execSt4S4 (x y z : RegIdx) (s : State) : Result := scaledAddress 4 x y s (storeAt .b4 z)

/-- ST8_S4, `st8 %z, (%x, %y, 4)` (R228). -/
def execSt8S4 (x y z : RegIdx) (s : State) : Result := scaledAddress 4 x y s (storeAt .b8 z)

/-! ### Scaled mode, scale 8 (R182) -/

/-- LDU1_S8, `ldu1 (%x, %y, 8), %z` (R229). -/
def execLdu1S8 (x y z : RegIdx) (s : State) : Result := scaledAddress 8 x y s (loadAt .b1 (zextLow 8) z)

/-- LDU2_S8, `ldu2 (%x, %y, 8), %z` (R230). -/
def execLdu2S8 (x y z : RegIdx) (s : State) : Result := scaledAddress 8 x y s (loadAt .b2 (zextLow 16) z)

/-- LDU4_S8, `ldu4 (%x, %y, 8), %z` (R231). -/
def execLdu4S8 (x y z : RegIdx) (s : State) : Result := scaledAddress 8 x y s (loadAt .b4 (zextLow 32) z)

/-- LD8_S8, `ld8 (%x, %y, 8), %z` (R232). -/
def execLd8S8 (x y z : RegIdx) (s : State) : Result := scaledAddress 8 x y s (loadAt .b8 plainValue z)

/-- LDS1_S8, `lds1 (%x, %y, 8), %z` (R233). -/
def execLds1S8 (x y z : RegIdx) (s : State) : Result := scaledAddress 8 x y s (loadAt .b1 (sextLow 8) z)

/-- LDS2_S8, `lds2 (%x, %y, 8), %z` (R234). -/
def execLds2S8 (x y z : RegIdx) (s : State) : Result := scaledAddress 8 x y s (loadAt .b2 (sextLow 16) z)

/-- LDS4_S8, `lds4 (%x, %y, 8), %z` (R235). -/
def execLds4S8 (x y z : RegIdx) (s : State) : Result := scaledAddress 8 x y s (loadAt .b4 (sextLow 32) z)

/-- ST1_S8, `st1 %z, (%x, %y, 8)` (R236). -/
def execSt1S8 (x y z : RegIdx) (s : State) : Result := scaledAddress 8 x y s (storeAt .b1 z)

/-- ST2_S8, `st2 %z, (%x, %y, 8)` (R237). -/
def execSt2S8 (x y z : RegIdx) (s : State) : Result := scaledAddress 8 x y s (storeAt .b2 z)

/-- ST4_S8, `st4 %z, (%x, %y, 8)` (R238). -/
def execSt4S8 (x y z : RegIdx) (s : State) : Result := scaledAddress 8 x y s (storeAt .b4 z)

/-- ST8_S8, `st8 %z, (%x, %y, 8)` (R239). -/
def execSt8S8 (x y z : RegIdx) (s : State) : Result := scaledAddress 8 x y s (storeAt .b8 z)

end Sys2Proof.Machine
end

