-- ==== Sys2Proof/Machine/SystemIo.lean ====
section
/-!
DEFINITION. Halt, no-op and character I/O (46_system_io.md, R270 to R277).
-/

namespace Sys2Proof.Machine

open Sys2Proof

/-- HALT_R, `halt %x` (R270). -/
def execHaltR (x : RegIdx) (s : State) : Result := readReg x s fun v s => .next (s.haltWith v)

/-- HALT_I, `halt $uX` (R271). -/
def execHaltI (u : Word) (s : State) : Result := .next (s.haltWith u)

/-- NOP, `nop` (R272). -/
def execNop (s : State) : Result := .next s

/-- GETC, `getc %x` (R274). -/
def execGetc (x : RegIdx) (s : State) : Result :=
  if deviceHasNextChar s.dev then
    .next (((s.setDev (deviceGetc s.dev).2).writeReg x (zeroExt (deviceGetc s.dev).1)).setStatus .running)
  else .next (s.setStatus .blocked)

/-- PUTC_R, `putc %x` (R275): bits 7 to 0 of the register. -/
def execPutcR (x : RegIdx) (s : State) : Result := readReg x s fun v s => .next (s.putChar (v.setWidth 8))

/-- PUTC_I, `putc $uX` (R276). -/
def execPutcI (u : Word) (s : State) : Result := .next (s.putChar (u.setWidth 8))

end Sys2Proof.Machine
end

