-- ==== Sys2Proof/Machine/Dispatch.lean ====
section
/-!
DEFINITION. `Execute(k, F)` (R114, R124): one arm per constructor of Instr, each one call of that instruction's meaning.
-/

namespace Sys2Proof.Machine

open Sys2Proof

/-- `Execute(k, F)` (R114, R124). -/
def exec (i : Instr) (s : State) : Host.Outcome State Fault Refusal :=
  match i with
  -- Halt and no-op (46_system_io.md)
  | .haltR x => Sys2Proof.Machine.execHaltR x s
  | .haltI u => Sys2Proof.Machine.execHaltI u s
  | .nop => Sys2Proof.Machine.execNop s
  -- Integer arithmetic (42_arithmetic.md)
  | .addRR x y z => Sys2Proof.Machine.execAddRR x y z s
  | .addIR u y z => Sys2Proof.Machine.execAddIR u y z s
  | .subRR x y z => Sys2Proof.Machine.execSubRR x y z s
  | .subIR u y z => Sys2Proof.Machine.execSubIR u y z s
  | .mulRR x y z => Sys2Proof.Machine.execMulRR x y z s
  | .mulRI x v z => Sys2Proof.Machine.execMulRI x v z s
  | .divuRR x y z => Sys2Proof.Machine.execDivuRR x y z s
  | .divuIR u y z => Sys2Proof.Machine.execDivuIR u y z s
  | .idivRR x y z => Sys2Proof.Machine.execIdivRR x y z s
  | .idivIR v y z => Sys2Proof.Machine.execIdivIR v y z s
  -- Bitwise logic (43_logic.md)
  | .andRR x y z => Sys2Proof.Machine.execAndRR x y z s
  | .orRR x y z => Sys2Proof.Machine.execOrRR x y z s
  | .notRR x y => Sys2Proof.Machine.execNotRR x y s
  -- Immediate loads and shifts (41_load_shift.md)
  | .ldiu u z => Sys2Proof.Machine.execLdiu u z s
  | .ldis v z => Sys2Proof.Machine.execLdis v z s
  | .shldi u z => Sys2Proof.Machine.execShldi u z s
  | .shlRR x y z => Sys2Proof.Machine.execShlRR x y z s
  | .shlIR u y z => Sys2Proof.Machine.execShlIR u y z s
  | .shrRR x y z => Sys2Proof.Machine.execShrRR x y z s
  | .shrIR u y z => Sys2Proof.Machine.execShrIR u y z s
  | .sarRR x y z => Sys2Proof.Machine.execSarRR x y z s
  | .sarIR u y z => Sys2Proof.Machine.execSarIR u y z s
  -- Character I/O (46_system_io.md)
  | .getc x => Sys2Proof.Machine.execGetc x s
  | .putcR x => Sys2Proof.Machine.execPutcR x s
  | .putcI u => Sys2Proof.Machine.execPutcI u s
  -- Control transfer (45_control_transfer.md)
  | .jmpAbs x y => Sys2Proof.Machine.execJmpAbs x y s
  | .jmp v => Sys2Proof.Machine.execJmp v s
  | .ja v => Sys2Proof.Machine.execJa v s
  | .jbe v => Sys2Proof.Machine.execJbe v s
  | .jae v => Sys2Proof.Machine.execJae v s
  | .jb v => Sys2Proof.Machine.execJb v s
  | .jg v => Sys2Proof.Machine.execJg v s
  | .jle v => Sys2Proof.Machine.execJle v s
  | .jge v => Sys2Proof.Machine.execJge v s
  | .jl v => Sys2Proof.Machine.execJl v s
  | .jz v => Sys2Proof.Machine.execJz v s
  | .jnz v => Sys2Proof.Machine.execJnz v s
  -- Memory, displacement mode (44_memory_access.md)
  | .ldu1D d y z => Sys2Proof.Machine.execLdu1D d y z s
  | .ldu2D d y z => Sys2Proof.Machine.execLdu2D d y z s
  | .ldu4D d y z => Sys2Proof.Machine.execLdu4D d y z s
  | .ld8D d y z => Sys2Proof.Machine.execLd8D d y z s
  | .lds1D d y z => Sys2Proof.Machine.execLds1D d y z s
  | .lds2D d y z => Sys2Proof.Machine.execLds2D d y z s
  | .lds4D d y z => Sys2Proof.Machine.execLds4D d y z s
  | .st1D d y z => Sys2Proof.Machine.execSt1D d y z s
  | .st2D d y z => Sys2Proof.Machine.execSt2D d y z s
  | .st4D d y z => Sys2Proof.Machine.execSt4D d y z s
  | .st8D d y z => Sys2Proof.Machine.execSt8D d y z s
  -- Memory, scaled mode, scale 1 (44_memory_access.md)
  | .ldu1S1 x y z => Sys2Proof.Machine.execLdu1S1 x y z s
  | .ldu2S1 x y z => Sys2Proof.Machine.execLdu2S1 x y z s
  | .ldu4S1 x y z => Sys2Proof.Machine.execLdu4S1 x y z s
  | .ld8S1 x y z => Sys2Proof.Machine.execLd8S1 x y z s
  | .lds1S1 x y z => Sys2Proof.Machine.execLds1S1 x y z s
  | .lds2S1 x y z => Sys2Proof.Machine.execLds2S1 x y z s
  | .lds4S1 x y z => Sys2Proof.Machine.execLds4S1 x y z s
  | .st1S1 x y z => Sys2Proof.Machine.execSt1S1 x y z s
  | .st2S1 x y z => Sys2Proof.Machine.execSt2S1 x y z s
  | .st4S1 x y z => Sys2Proof.Machine.execSt4S1 x y z s
  | .st8S1 x y z => Sys2Proof.Machine.execSt8S1 x y z s
  -- Memory, scaled mode, scale 2 (44_memory_access.md)
  | .ldu1S2 x y z => Sys2Proof.Machine.execLdu1S2 x y z s
  | .ldu2S2 x y z => Sys2Proof.Machine.execLdu2S2 x y z s
  | .ldu4S2 x y z => Sys2Proof.Machine.execLdu4S2 x y z s
  | .ld8S2 x y z => Sys2Proof.Machine.execLd8S2 x y z s
  | .lds1S2 x y z => Sys2Proof.Machine.execLds1S2 x y z s
  | .lds2S2 x y z => Sys2Proof.Machine.execLds2S2 x y z s
  | .lds4S2 x y z => Sys2Proof.Machine.execLds4S2 x y z s
  | .st1S2 x y z => Sys2Proof.Machine.execSt1S2 x y z s
  | .st2S2 x y z => Sys2Proof.Machine.execSt2S2 x y z s
  | .st4S2 x y z => Sys2Proof.Machine.execSt4S2 x y z s
  | .st8S2 x y z => Sys2Proof.Machine.execSt8S2 x y z s
  -- Memory, scaled mode, scale 4 (44_memory_access.md)
  | .ldu1S4 x y z => Sys2Proof.Machine.execLdu1S4 x y z s
  | .ldu2S4 x y z => Sys2Proof.Machine.execLdu2S4 x y z s
  | .ldu4S4 x y z => Sys2Proof.Machine.execLdu4S4 x y z s
  | .ld8S4 x y z => Sys2Proof.Machine.execLd8S4 x y z s
  | .lds1S4 x y z => Sys2Proof.Machine.execLds1S4 x y z s
  | .lds2S4 x y z => Sys2Proof.Machine.execLds2S4 x y z s
  | .lds4S4 x y z => Sys2Proof.Machine.execLds4S4 x y z s
  | .st1S4 x y z => Sys2Proof.Machine.execSt1S4 x y z s
  | .st2S4 x y z => Sys2Proof.Machine.execSt2S4 x y z s
  | .st4S4 x y z => Sys2Proof.Machine.execSt4S4 x y z s
  | .st8S4 x y z => Sys2Proof.Machine.execSt8S4 x y z s
  -- Memory, scaled mode, scale 8 (44_memory_access.md)
  | .ldu1S8 x y z => Sys2Proof.Machine.execLdu1S8 x y z s
  | .ldu2S8 x y z => Sys2Proof.Machine.execLdu2S8 x y z s
  | .ldu4S8 x y z => Sys2Proof.Machine.execLdu4S8 x y z s
  | .ld8S8 x y z => Sys2Proof.Machine.execLd8S8 x y z s
  | .lds1S8 x y z => Sys2Proof.Machine.execLds1S8 x y z s
  | .lds2S8 x y z => Sys2Proof.Machine.execLds2S8 x y z s
  | .lds4S8 x y z => Sys2Proof.Machine.execLds4S8 x y z s
  | .st1S8 x y z => Sys2Proof.Machine.execSt1S8 x y z s
  | .st2S8 x y z => Sys2Proof.Machine.execSt2S8 x y z s
  | .st4S8 x y z => Sys2Proof.Machine.execSt4S8 x y z s
  | .st8S8 x y z => Sys2Proof.Machine.execSt8S8 x y z s

end Sys2Proof.Machine
end

