-- ==== Sys2Proof/Machine/Step.lean ====
section
/-!
DEFINITION. The step (40_execution_cycle.md, R123), and the word the next step fetches.
-/

namespace Sys2Proof.Machine

open Sys2Proof

/-- `Step()` (R123): nothing in HALTED (R118); else fetch, decode, execute, and the end of the step. A step in BLOCKED runs
exactly like a step in RUNNING (R119). -/
def step (s : State) : Host.Outcome State Fault Refusal :=
  match s.status with
  | .halted => .next s
  | .running | .blocked =>
    fetch s fun w s =>
      match decodeWord s.cfg.opmap w with
      | .ok i => finishStep (exec i s)
      | .error _ => illegalOpcode w s

/-- The state whose next step fetches and runs the instruction whose bits are `w`, numbered as spec/opcode_table.json numbers
them (log 3). -/
def State.withFetchWord (s : State) (nbits w : Nat) : State := s.withWordAtPc (tableWord nbits w)

end Sys2Proof.Machine
end

