-- ==== Sys2Proof/Machine/Assembler.lean ====
section
/-!
DEFINITION. The formats of the kinds (R87), and the spec's assembler conventions: its notation (R95), branch targets (R96)
and pseudo-instructions (R97). Nothing here takes part in a step.
-/

namespace Sys2Proof.Machine

open Sys2Proof

/-- The formats of R87. -/
inductive Format where
  | n | r | i8 | rr | rrr | irr | srr | rsr | u16r | s16r | j24 | md | mx
  deriving DecidableEq, Repr

/-- The format of each kind (R87, R90). -/
def formatOf : Kind → Format
  | .haltR => .r
  | .haltI => .i8
  | .nop => .n
  | .addRR => .rrr
  | .addIR => .irr
  | .subRR => .rrr
  | .subIR => .irr
  | .mulRR => .rrr
  | .mulRI => .rsr
  | .divuRR => .rrr
  | .divuIR => .irr
  | .idivRR => .rrr
  | .idivIR => .srr
  | .andRR => .rrr
  | .orRR => .rrr
  | .notRR => .rr
  | .ldiu => .u16r
  | .ldis => .s16r
  | .shldi => .u16r
  | .shlRR => .rrr
  | .shlIR => .irr
  | .shrRR => .rrr
  | .shrIR => .irr
  | .sarRR => .rrr
  | .sarIR => .irr
  | .getc => .r
  | .putcR => .r
  | .putcI => .i8
  | .jmpAbs => .rr
  | .jmp => .j24
  | .ja => .j24
  | .jbe => .j24
  | .jae => .j24
  | .jb => .j24
  | .jg => .j24
  | .jle => .j24
  | .jge => .j24
  | .jl => .j24
  | .jz => .j24
  | .jnz => .j24
  | .ldu1D => .md
  | .ldu2D => .md
  | .ldu4D => .md
  | .ld8D => .md
  | .lds1D => .md
  | .lds2D => .md
  | .lds4D => .md
  | .st1D => .md
  | .st2D => .md
  | .st4D => .md
  | .st8D => .md
  | .ldu1S1 => .mx
  | .ldu2S1 => .mx
  | .ldu4S1 => .mx
  | .ld8S1 => .mx
  | .lds1S1 => .mx
  | .lds2S1 => .mx
  | .lds4S1 => .mx
  | .st1S1 => .mx
  | .st2S1 => .mx
  | .st4S1 => .mx
  | .st8S1 => .mx
  | .ldu1S2 => .mx
  | .ldu2S2 => .mx
  | .ldu4S2 => .mx
  | .ld8S2 => .mx
  | .lds1S2 => .mx
  | .lds2S2 => .mx
  | .lds4S2 => .mx
  | .st1S2 => .mx
  | .st2S2 => .mx
  | .st4S2 => .mx
  | .st8S2 => .mx
  | .ldu1S4 => .mx
  | .ldu2S4 => .mx
  | .ldu4S4 => .mx
  | .ld8S4 => .mx
  | .lds1S4 => .mx
  | .lds2S4 => .mx
  | .lds4S4 => .mx
  | .st1S4 => .mx
  | .st2S4 => .mx
  | .st4S4 => .mx
  | .st8S4 => .mx
  | .ldu1S8 => .mx
  | .ldu2S8 => .mx
  | .ldu4S8 => .mx
  | .ld8S8 => .mx
  | .lds1S8 => .mx
  | .lds2S8 => .mx
  | .lds4S8 => .mx
  | .st1S8 => .mx
  | .st2S8 => .mx
  | .st4S8 => .mx
  | .st8S8 => .mx

/-- The operand bits a format uses: 1 where the bit reaches an operand, 0 where it is ignored (R87, R88). -/
def usedBits : Format → OperandField
  | .n => 0x000000
  | .r | .i8 => 0xFF0000
  | .rr => 0xFFFF00
  | .rrr | .irr | .srr | .rsr | .u16r | .s16r | .j24 | .md | .mx => 0xFFFFFF

/-! ### Notation (R95) -/

/-- The assembler's name of each kind (R90, column syntax). -/
def mnemonicOf : Kind → String
  | .haltR => "halt"
  | .haltI => "halt"
  | .nop => "nop"
  | .addRR => "add"
  | .addIR => "add"
  | .subRR => "sub"
  | .subIR => "sub"
  | .mulRR => "mul"
  | .mulRI => "mul"
  | .divuRR => "divu"
  | .divuIR => "divu"
  | .idivRR => "idiv"
  | .idivIR => "idiv"
  | .andRR => "and"
  | .orRR => "or"
  | .notRR => "not"
  | .ldiu => "ldiu"
  | .ldis => "ldis"
  | .shldi => "shldi"
  | .shlRR => "shl"
  | .shlIR => "shl"
  | .shrRR => "shr"
  | .shrIR => "shr"
  | .sarRR => "sar"
  | .sarIR => "sar"
  | .getc => "getc"
  | .putcR => "putc"
  | .putcI => "putc"
  | .jmpAbs => "jmp"
  | .jmp => "jmp"
  | .ja => "ja"
  | .jbe => "jbe"
  | .jae => "jae"
  | .jb => "jb"
  | .jg => "jg"
  | .jle => "jle"
  | .jge => "jge"
  | .jl => "jl"
  | .jz => "jz"
  | .jnz => "jnz"
  | .ldu1D => "ldu1"
  | .ldu2D => "ldu2"
  | .ldu4D => "ldu4"
  | .ld8D => "ld8"
  | .lds1D => "lds1"
  | .lds2D => "lds2"
  | .lds4D => "lds4"
  | .st1D => "st1"
  | .st2D => "st2"
  | .st4D => "st4"
  | .st8D => "st8"
  | .ldu1S1 => "ldu1"
  | .ldu2S1 => "ldu2"
  | .ldu4S1 => "ldu4"
  | .ld8S1 => "ld8"
  | .lds1S1 => "lds1"
  | .lds2S1 => "lds2"
  | .lds4S1 => "lds4"
  | .st1S1 => "st1"
  | .st2S1 => "st2"
  | .st4S1 => "st4"
  | .st8S1 => "st8"
  | .ldu1S2 => "ldu1"
  | .ldu2S2 => "ldu2"
  | .ldu4S2 => "ldu4"
  | .ld8S2 => "ld8"
  | .lds1S2 => "lds1"
  | .lds2S2 => "lds2"
  | .lds4S2 => "lds4"
  | .st1S2 => "st1"
  | .st2S2 => "st2"
  | .st4S2 => "st4"
  | .st8S2 => "st8"
  | .ldu1S4 => "ldu1"
  | .ldu2S4 => "ldu2"
  | .ldu4S4 => "ldu4"
  | .ld8S4 => "ld8"
  | .lds1S4 => "lds1"
  | .lds2S4 => "lds2"
  | .lds4S4 => "lds4"
  | .st1S4 => "st1"
  | .st2S4 => "st2"
  | .st4S4 => "st4"
  | .st8S4 => "st8"
  | .ldu1S8 => "ldu1"
  | .ldu2S8 => "ldu2"
  | .ldu4S8 => "ldu4"
  | .ld8S8 => "ld8"
  | .lds1S8 => "lds1"
  | .lds2S8 => "lds2"
  | .lds4S8 => "lds4"
  | .st1S8 => "st1"
  | .st2S8 => "st2"
  | .st4S8 => "st4"
  | .st8S8 => "st8"

/-- The scale a scaled memory kind is written with (R90); 0 for the other kinds. -/
def scaleOf : Kind → Nat
  | .haltR => 0
  | .haltI => 0
  | .nop => 0
  | .addRR => 0
  | .addIR => 0
  | .subRR => 0
  | .subIR => 0
  | .mulRR => 0
  | .mulRI => 0
  | .divuRR => 0
  | .divuIR => 0
  | .idivRR => 0
  | .idivIR => 0
  | .andRR => 0
  | .orRR => 0
  | .notRR => 0
  | .ldiu => 0
  | .ldis => 0
  | .shldi => 0
  | .shlRR => 0
  | .shlIR => 0
  | .shrRR => 0
  | .shrIR => 0
  | .sarRR => 0
  | .sarIR => 0
  | .getc => 0
  | .putcR => 0
  | .putcI => 0
  | .jmpAbs => 0
  | .jmp => 0
  | .ja => 0
  | .jbe => 0
  | .jae => 0
  | .jb => 0
  | .jg => 0
  | .jle => 0
  | .jge => 0
  | .jl => 0
  | .jz => 0
  | .jnz => 0
  | .ldu1D => 0
  | .ldu2D => 0
  | .ldu4D => 0
  | .ld8D => 0
  | .lds1D => 0
  | .lds2D => 0
  | .lds4D => 0
  | .st1D => 0
  | .st2D => 0
  | .st4D => 0
  | .st8D => 0
  | .ldu1S1 => 1
  | .ldu2S1 => 1
  | .ldu4S1 => 1
  | .ld8S1 => 1
  | .lds1S1 => 1
  | .lds2S1 => 1
  | .lds4S1 => 1
  | .st1S1 => 1
  | .st2S1 => 1
  | .st4S1 => 1
  | .st8S1 => 1
  | .ldu1S2 => 2
  | .ldu2S2 => 2
  | .ldu4S2 => 2
  | .ld8S2 => 2
  | .lds1S2 => 2
  | .lds2S2 => 2
  | .lds4S2 => 2
  | .st1S2 => 2
  | .st2S2 => 2
  | .st4S2 => 2
  | .st8S2 => 2
  | .ldu1S4 => 4
  | .ldu2S4 => 4
  | .ldu4S4 => 4
  | .ld8S4 => 4
  | .lds1S4 => 4
  | .lds2S4 => 4
  | .lds4S4 => 4
  | .st1S4 => 4
  | .st2S4 => 4
  | .st4S4 => 4
  | .st8S4 => 4
  | .ldu1S8 => 8
  | .ldu2S8 => 8
  | .ldu4S8 => 8
  | .ld8S8 => 8
  | .lds1S8 => 8
  | .lds2S8 => 8
  | .lds4S8 => 8
  | .st1S8 => 8
  | .st2S8 => 8
  | .st4S8 => 8
  | .st8S8 => 8

/-- A store is written with its data register first (R90). -/
def isStore : Kind → Bool
  | .haltR => false
  | .haltI => false
  | .nop => false
  | .addRR => false
  | .addIR => false
  | .subRR => false
  | .subIR => false
  | .mulRR => false
  | .mulRI => false
  | .divuRR => false
  | .divuIR => false
  | .idivRR => false
  | .idivIR => false
  | .andRR => false
  | .orRR => false
  | .notRR => false
  | .ldiu => false
  | .ldis => false
  | .shldi => false
  | .shlRR => false
  | .shlIR => false
  | .shrRR => false
  | .shrIR => false
  | .sarRR => false
  | .sarIR => false
  | .getc => false
  | .putcR => false
  | .putcI => false
  | .jmpAbs => false
  | .jmp => false
  | .ja => false
  | .jbe => false
  | .jae => false
  | .jb => false
  | .jg => false
  | .jle => false
  | .jge => false
  | .jl => false
  | .jz => false
  | .jnz => false
  | .ldu1D => false
  | .ldu2D => false
  | .ldu4D => false
  | .ld8D => false
  | .lds1D => false
  | .lds2D => false
  | .lds4D => false
  | .st1D => true
  | .st2D => true
  | .st4D => true
  | .st8D => true
  | .ldu1S1 => false
  | .ldu2S1 => false
  | .ldu4S1 => false
  | .ld8S1 => false
  | .lds1S1 => false
  | .lds2S1 => false
  | .lds4S1 => false
  | .st1S1 => true
  | .st2S1 => true
  | .st4S1 => true
  | .st8S1 => true
  | .ldu1S2 => false
  | .ldu2S2 => false
  | .ldu4S2 => false
  | .ld8S2 => false
  | .lds1S2 => false
  | .lds2S2 => false
  | .lds4S2 => false
  | .st1S2 => true
  | .st2S2 => true
  | .st4S2 => true
  | .st8S2 => true
  | .ldu1S4 => false
  | .ldu2S4 => false
  | .ldu4S4 => false
  | .ld8S4 => false
  | .lds1S4 => false
  | .lds2S4 => false
  | .lds4S4 => false
  | .st1S4 => true
  | .st2S4 => true
  | .st4S4 => true
  | .st8S4 => true
  | .ldu1S8 => false
  | .ldu2S8 => false
  | .ldu4S8 => false
  | .ld8S8 => false
  | .lds1S8 => false
  | .lds2S8 => false
  | .lds4S8 => false
  | .st1S8 => true
  | .st2S8 => true
  | .st4S8 => true
  | .st8S8 => true

/-- `%n` (R95). -/
def showReg (i : RegIdx) : String := "%" ++ toString i.toNat

/-- `$n` for an unsigned immediate, in decimal (R95). -/
def showUnsigned (v : Word) : String := "$" ++ toString v.toNat

/-- `$n` for a signed immediate, in decimal (R95). -/
def showSigned (v : Word) : String := "$" ++ toString v.toInt

/-- A line of assembly: the mnemonic and its operands, separated by commas. -/
def showLine (mnemonic : String) (operands : List String) : String :=
  if operands.isEmpty then mnemonic else mnemonic ++ " " ++ String.intercalate ", " operands

/-- The memory operand `d(%b)` and the data register, in the order the kind is written in (R90, R95). -/
def showMemory (k : Kind) (operand : String) (z : RegIdx) : List String :=
  if isStore k then [showReg z, operand] else [operand, showReg z]

/-- The assembly text of a kind with its decoded operands (R90, R95). -/
def showAssembly (k : Kind) (F : Operands) : String :=
  showLine (mnemonicOf k)
    (match formatOf k with
     | .n => []
     | .r => [showReg F.rX]
     | .i8 => [showUnsigned F.uX]
     | .rr => [showReg F.rX, showReg F.rY]
     | .rrr => [showReg F.rX, showReg F.rY, showReg F.rZ]
     | .irr => [showUnsigned F.uX, showReg F.rY, showReg F.rZ]
     | .srr => [showSigned F.sX, showReg F.rY, showReg F.rZ]
     | .rsr => [showReg F.rX, showSigned F.sY, showReg F.rZ]
     | .u16r => [showUnsigned F.uXY, showReg F.rZ]
     | .s16r => [showSigned F.sXY, showReg F.rZ]
     | .j24 => [showSigned F.sXYZ]
     | .md => showMemory k (showSigned F.sX ++ "(" ++ showReg F.rY ++ ")") F.rZ
     | .mx =>
       showMemory k ("(" ++ showReg F.rX ++ ", " ++ showReg F.rY ++ ", " ++ toString (scaleOf k) ++ ")") F.rZ)

/-! ### Branch targets (R96) -/

/-- The offset the assembler encodes for a jump at `source` to the label `target`, or none where it refuses the instruction:
the difference is no multiple of 4, or the quotient does not fit 24 bits. The difference is modulo 2^64 (R8) and read as
signed, so that this is the inverse of R251 around address 2^64 too (log 18). -/
def branchOffset (source target : Word) : Option Word :=
  let diff : Int := (target - source).toInt
  if diff % 4 = 0 ∧ -(2 : Int) ^ 23 ≤ diff / 4 ∧ diff / 4 ≤ (2 : Int) ^ 23 - 1 then some (BitVec.ofInt 64 (diff / 4)) else none

/-! ### Pseudo-instructions (R97) -/

/-- `cmp %a, %b`: the flags of `b - a`. -/
def pseudoCmp (a b : RegIdx) : List Instr := [.subRR a b 0]

/-- `cmpi $u, %b`: the flags of `b - u`. -/
def pseudoCmpi (u : Byte) (b : RegIdx) : List Instr := [.subIR (zeroExt u) b 0]

/-- `test %a`: ZF from x[a]. -/
def pseudoTest (a : RegIdx) : List Instr := [.orRR a 0 0]

/-- `mov %a, %b`: x[b] <- x[a]. -/
def pseudoMov (a b : RegIdx) : List Instr := [.orRR a 0 b]

/-- `neg %a, %b`: x[b] <- 0 - x[a]. -/
def pseudoNeg (a b : RegIdx) : List Instr := [.subRR a 0 b]

/-- `li64 $c, %r`: x[r] <- c, in four words. -/
def pseudoLi64 (c : Word) (r : RegIdx) : List Instr :=
  [.ldiu (zeroExt (c.extractLsb' 48 16)) r, .shldi (zeroExt (c.extractLsb' 32 16)) r,
    .shldi (zeroExt (c.extractLsb' 16 16)) r, .shldi (zeroExt (c.extractLsb' 0 16)) r]

/-- `call %t, %ra`. -/
def pseudoCall (t ra : RegIdx) : List Instr := [.jmpAbs t ra]

/-- `ret %ra`. -/
def pseudoRet (ra : RegIdx) : List Instr := [.jmpAbs ra 0]

/-- `b label`: the relative jump, where the label can be reached. -/
def pseudoB (source target : Word) : Option (List Instr) := (branchOffset source target).map fun v => [.jmp v]

end Sys2Proof.Machine
end

