-- ==== Sys2Proof/Machine/HostPort.lean ====
section
/-!
DEFINITION. The ports of the block as the host sees them (60_exceptions.md, R312 to R318; 70_reset_and_hazards.md): the host
control port (reset, image load, run), the arrival of input at the IODevice, the status port and the trace port's texts.
-/

namespace Sys2Proof.Machine

open Sys2Proof

/-! ### The host control port (R314) -/

/-- `reset()` (R330): every register, flag, pc, IR, jumped, status, exit code, error and page as in R41, then the IODevice's
own reset, then the ResetEvent. The trace port's record goes on and the parameters stay (log 21). -/
def hostReset (s : State) : State :=
  { State.reset with dev := Config.deviceReset s.dev, trace := s.trace, cfg := s.cfg }.emit .reset

/-- The memory after the words are written from address `a` on, 4 bytes apart (R63). -/
def storeWords (m : Memory) (a : Word) : List InstrWord → Memory
  | [] => m
  | w :: ws => storeWords (m.write a .b4 (w.setWidth 64)) (a + 4) ws

/-- The pages in use fit `PAGE_CAPACITY` (R62, R314; log 10). -/
def fitsCapacity (capacity : Option Nat) (m : Memory) : Bool :=
  match capacity with
  | none => true
  | some n => decide (m.pages.length ≤ n)

/-- `loadImage(words)` (R63): the words at addresses 0, 4, 8, ..., one ImageLoadedEvent; nothing else changes. An image that
is too long or does not fit is refused with no state change (R314, I14). -/
def loadImage (words : List InstrWord) (s : State) : Result :=
  if 2 ^ 62 < words.length then .refused .imageTooLong
  else if fitsCapacity s.cfg.pageCapacity (storeWords s.mem 0 words) then
    .next ((s.setMem (storeWords s.mem 0 words)).emit (.imageLoaded words))
  else .refused .imageDoesNotFit

/-- `run()` under fuel (R121, log 19): step until HALTED, then the exit code and the state; none where the fuel runs out
first. A refusal of a step would also end it with none; no step refuses. DESIGN CHOICE (log 23): no input arrives at the
IODevice between the steps of this run, although R312 lets it; `runWithInput` is the run with arrivals. -/
def runFuel : Nat → State → Option (Word × State)
  | fuel, s =>
    if s.status = .halted then some (s.exitCode, s)
    else
      match fuel with
      | 0 => none
      | fuel + 1 =>
        match step s with
        | .next t => runFuel fuel t
        | .fault _ => none
        | .refused _ => none

/-! ### The IODevice between two steps (R312) -/

/-- Input arrives at the device: it stands behind what is there already (log 4). -/
def supplyInput (chars : List Byte) (s : State) : State := s.setDev { s.dev with input := s.dev.input ++ chars }

/-- `run()` while input arrives (R121, R312): before each step the next entry of `arrivals` reaches the IODevice, no
character or some. The number of entries is the fuel; `runFuel` is the run in which every entry is empty (log 23). -/
def runWithInput : List (List Byte) → State → Option (Word × State)
  | arrivals, s =>
    if s.status = .halted then some (s.exitCode, s)
    else
      match arrivals with
      | [] => none
      | chars :: later =>
        match step (supplyInput chars s) with
        | .next t => runWithInput later t
        | .fault _ => none
        | .refused _ => none

/-! ### The status port (R315) -/

/-- The two-bit encoding of the run status (R33). -/
def statusCode : Status → BitVec 2
  | .running => 0b00#2
  | .blocked => 0b01#2
  | .halted => 0b10#2

/-- What the status port shows. -/
structure StatusPort where
  status : BitVec 2
  exitCode : Word
  lastError : Option ErrorRecord
  deriving DecidableEq, Repr

/-- The status port's outputs at all times (R315). -/
def statusPort (s : State) : StatusPort where
  status := statusCode s.status
  exitCode := s.exitCode
  lastError := s.lastError

/-! ### The text of an error (R300) -/

/-- A hexadecimal digit. -/
def hexDigit (n : Nat) : Char :=
  ['0', '1', '2', '3', '4', '5', '6', '7', '8', '9', 'A', 'B', 'C', 'D', 'E', 'F'].getD n '?'

/-- An opcode value in hexadecimal, as the spec writes opcodes (R86, R95): `0x` and two digits. -/
def hexByte (op : Byte) : String := String.ofList ['0', 'x', hexDigit (op.toNat / 16), hexDigit (op.toNat % 16)]

/-- An opcode value in one of the two notations of R95; which one, the spec leaves open (DESIGN CHOICE, log 6). -/
def showOpcode (op : Byte) : String := if Config.opcodeInHex then hexByte op else toString op.toNat

/-- `ERROR_TEXT` (R300): the text of an IllegalInstruction includes the opcode value; all other words are open (I9, log 6). -/
def errorText : ErrorRecord → String
  | .illegalInstruction op pc =>
    Config.errorWords (.illegalInstruction op pc) ++ showOpcode op ++ Config.errorWordsAfter (.illegalInstruction op pc)
  | e => Config.errorWords e

/-- The error's text on the status port: `ERROR_TEXT(lastError)`, absent for NONE (R300, R315). -/
def lastErrorText (s : State) : Option String := s.lastError.map errorText

/-! ### The texts of the trace port (R98, R318) -/

/-- The text of a preview event. -/
def PreviewText.render : PreviewText → String
  | .illegal => "illegal instruction"
  | .ofWord w => (Config.disasm w).getD "not implemented"

/-- The message of a halt event: `ERROR_TEXT` of its record, absent for a natural halt (R305, R115). -/
def haltMessage (msg : Option ErrorRecord) : Option String := msg.map errorText

end Sys2Proof.Machine
end

