-- ==== Sys2Proof/Safety.lean ====
section
/-!
DEFINITION. What the claims mean by a good state, a precise fault and the end of a run.
-/

namespace Sys2Proof.Machine

open Sys2Proof

/-- A run has ended successfully (R122). -/
def State.endedSuccessfully (s : State) : Prop := s.status = .halted ∧ s.lastError = none

/-- The word the next fetch reads, where pc is aligned (R111). -/
def State.nextWord (s : State) : InstrWord := (s.mem.read s.pc .b4).setWidth 32

/-- The invariant of a block that only steps: the memory is in its canonical form (R36, R37); no more pages than
PAGE_CAPACITY are in use (R62); the slot of x[0] holds 0 (R21); jumped is 0 between steps (R120); a blocked block stands at
an aligned GETC (R119); and an error is recorded only in HALTED (R35, R305). -/
structure State.Inv (s : State) : Prop where
  memoryCanonical : s.mem.wf
  pagesFit : fitsCapacity s.cfg.pageCapacity s.mem = true
  registerZero : s.regs[0] = 0
  jumpedClear : s.jumped = false
  blockedAtGetc : s.status = .blocked →
    s.pc.toNat % 4 = 0 ∧ ∃ x, decodeWord s.cfg.opmap s.nextWord = .ok (.getc x)
  errorHalted : s.lastError ≠ none → s.status = .halted

/-- Everything a fault leaves alone (R305): the registers, flags, memory and pages, pc, jumped, the exit code, the IODevice
and the parameters. -/
structure State.SameButFault (s t : State) : Prop where
  regs : t.regs = s.regs
  flags : t.flags = s.flags
  pc : t.pc = s.pc
  jumped : t.jumped = s.jumped
  exitCode : t.exitCode = s.exitCode
  mem : t.mem = s.mem
  dev : t.dev = s.dev
  cfg : t.cfg = s.cfg

/-! ### What stays the same -/

/-- IR, the status, the exit code, the error and the parameters are as they were. -/
structure State.SameStatus (s t : State) : Prop where
  ir : t.ir = s.ir
  status : t.status = s.status
  exitCode : t.exitCode = s.exitCode
  lastError : t.lastError = s.lastError
  cfg : t.cfg = s.cfg

/-- `SameStatus`, and pc and jumped too. -/
structure State.SameControl (s t : State) : Prop extends State.SameStatus s t where
  pc : t.pc = s.pc
  jumped : t.jumped = s.jumped

/-- Every byte of memory reads as before, and the same pages are allocated. -/
structure State.SameMemory (s t : State) : Prop where
  bytes : ∀ a, t.mem.byte a = s.mem.byte a
  pages : t.mem.pages = s.mem.pages

/-- Every byte outside the `n` bytes from `a` on reads as before. -/
def State.SameBytesOutside (s t : State) (a n : Nat) : Prop :=
  ∀ b, (b < a ∨ a + n ≤ b) → t.mem.byte b = s.mem.byte b

/-- `x[i] <- v` (R11): x[i] holds `v`, but x[0] still reads 0 and its slot is not written (R21); every other general
register is as it was. -/
structure State.WritesReg (s t : State) (i : RegIdx) (v : Word) : Prop where
  written : t.reg i = if i = 0 then 0 else v
  others : ∀ j, j ≠ i → t.reg j = s.reg j
  slotZero : t.regs[0] = s.regs[0]

/-- Nothing but general registers, flags and the trace differs. -/
structure State.SameButRegsFlags (s t : State) : Prop where
  control : s.SameControl t
  memory : s.SameMemory t
  dev : t.dev = s.dev

/-- The trace port carried these events, in this order (R316). -/
def State.Traced (s t : State) (events : List TraceEvent) : Prop := t.trace = events.reverse ++ s.trace

/-! ### Values in memory, as numbers -/

/-- The number the `n` bytes from address `a` on hold, the most significant byte first (R52). -/
def bigEndian (m : Memory) (a : Nat) : Nat → Nat
  | 0 => 0
  | n + 1 => bigEndian m a n * 256 + (m.byte (a + n)).toNat

/-- The two's-complement value of an n-byte number (R10). -/
def signedBytes (n v : Nat) : Int := if v < 2 ^ (8 * n - 1) then v else (v : Int) - 2 ^ (8 * n)

/-- The page of an access is there, or PAGE_CAPACITY leaves room for it (R58, R62). -/
def State.pageReady (s : State) (a : Word) : Prop :=
  pageOf a ∈ s.mem.pages ∨ s.cfg.pageCapacity ≠ some s.mem.pages.length

end Sys2Proof.Machine
end

