-- ==== Sys2Proof/Certificates/Slice0/Obligations.lean ====
section
/-!
DEFINITION. The statements for the provers. A statement about an instruction says, for every operand and every state that
meets its hypotheses: the word of 30_encoding.md R90 that encodes it under REF_OPMAP (R86), that `exec` answers a next state,
everything that state holds, and everything it leaves as it was. The words the statements share come first.
-/

namespace Sys2Proof.Claims

open Sys2Proof Sys2Proof.Machine

/-- Under REF_OPMAP the word `w` decodes to `i` (R84, R86, R90). -/
def Encodes (w : InstrWord) (i : Instr) : Prop := decodeWord refOpmap w = .ok i

/-- `exec` answers the next state of a fault with record `e` (R305): HALTED, the record, one halt event with the stale exit
code, and nothing else of the block changed. -/
def TrapsWith (i : Instr) (s : State) (e : ErrorRecord) : Prop :=
  ∃ t, exec i s = .next t ∧ t.status = .halted ∧ t.lastError = some e ∧ s.SameButFault t ∧ t.ir = s.ir
    ∧ t.trace.head? = some (.halt s.exitCode (some e))

/-! ### Effects of the register instructions -/

/-- `x[z] <- v; ZF <- (v == 0)`, nothing else (R130, R170). -/
def WritesWithZf (v : Word) (z : RegIdx) (s t : State) : Prop :=
  s.WritesReg t z v ∧ t.flags = { s.flags with zf := decide (v = 0) } ∧ s.SameButRegsFlags t

/-- `x[z] <- v` and no flag, nothing else (R137 to R140). -/
def WritesNoFlag (v : Word) (z : RegIdx) (s t : State) : Prop :=
  s.WritesReg t z v ∧ t.flags = s.flags ∧ s.SameButRegsFlags t

/-- The sum of `a` and `b` into x[z], with its four flags (R150 and its corner cases). -/
def AddEffect (a b : Word) (z : RegIdx) (s t : State) : Prop :=
  s.WritesReg t z (BitVec.ofNat 64 (a.toNat + b.toNat))
    ∧ (t.flags.zf = true ↔ (a.toNat + b.toNat) % 2 ^ 64 = 0)
    ∧ (t.flags.cf = true ↔ 2 ^ 64 ≤ a.toNat + b.toNat)
    ∧ (t.flags.of = true ↔ (a.toInt + b.toInt < -(2 ^ 63 : Int) ∨ (2 ^ 63 : Int) ≤ a.toInt + b.toInt))
    ∧ (t.flags.sf = true ↔ (BitVec.ofNat 64 (a.toNat + b.toNat)).toInt < 0)
    ∧ s.SameButRegsFlags t

/-- The difference `b - a` into x[z], with its four flags (R152 and its corner cases): `a` is the subtrahend. -/
def SubEffect (a b : Word) (z : RegIdx) (s t : State) : Prop :=
  s.WritesReg t z (BitVec.ofInt 64 (b.toInt - a.toInt))
    ∧ (t.flags.zf = true ↔ a = b)
    ∧ (t.flags.cf = true ↔ b.toNat < a.toNat)
    ∧ (t.flags.of = true ↔ (b.toInt - a.toInt < -(2 ^ 63 : Int) ∨ (2 ^ 63 : Int) ≤ b.toInt - a.toInt))
    ∧ (t.flags.sf = true ↔ (BitVec.ofInt 64 (b.toInt - a.toInt)).toInt < 0)
    ∧ s.SameButRegsFlags t

/-- `ovf` of the exact product `p` (R154): the high 64 bits of a product from 0 to 2^64 - 1 are zero, and of no other. -/
def ProductOverflows (mode : MulOvfMode) (p : Int) : Prop :=
  match mode with
  | .highNonzero => p < 0 ∨ (2 ^ 64 : Int) ≤ p
  | .signedFit => p < -(2 ^ 63 : Int) ∨ (2 ^ 63 : Int) ≤ p

/-- The low 64 bits of the signed product into x[z], CF and OF by the two modes, ZF and SF untouched (R154, R155). The low
64 bits are those of the unsigned product too. -/
def MulEffect (a b : Word) (z : RegIdx) (s t : State) : Prop :=
  s.WritesReg t z (BitVec.ofNat 64 (a.toNat * b.toNat))
    ∧ (match s.cfg.mulFlagMode with
       | .setOnly =>
         (t.flags.cf = true ↔ (ProductOverflows s.cfg.mulOvfMode (a.toInt * b.toInt) ∨ s.flags.cf = true))
           ∧ (t.flags.of = true ↔ (ProductOverflows s.cfg.mulOvfMode (a.toInt * b.toInt) ∨ s.flags.of = true))
       | .assign =>
         (t.flags.cf = true ↔ ProductOverflows s.cfg.mulOvfMode (a.toInt * b.toInt))
           ∧ (t.flags.of = true ↔ ProductOverflows s.cfg.mulOvfMode (a.toInt * b.toInt)))
    ∧ t.flags.zf = s.flags.zf ∧ t.flags.sf = s.flags.sf ∧ s.SameButRegsFlags t

/-- The 128-bit dividend of divu (R157). -/
def dividend (lo hi : Word) : Nat := hi.toNat * 2 ^ 64 + lo.toNat

/-- The three registers a divu writes (R157): quotient low, quotient high, remainder; no flag, nothing else. -/
def DivuEffect (d n : Nat) (q : RegIdx) (s t : State) : Prop :=
  t.reg q = (if q = 0 then 0 else BitVec.ofNat 64 (n / d))
    ∧ t.reg (q + 1) = BitVec.ofNat 64 (n / d / 2 ^ 64)
    ∧ t.reg (q + 2) = BitVec.ofNat 64 (n % d)
    ∧ (∀ j, j ≠ q → j ≠ q + 1 → j ≠ q + 2 → t.reg j = s.reg j)
    ∧ t.regs[0] = s.regs[0] ∧ t.flags = s.flags ∧ s.SameButRegsFlags t

/-- The two registers an idiv writes (R160): the quotient truncated toward zero, and the remainder with the sign of the
dividend; no flag, nothing else. -/
def IdivEffect (d n : Int) (q : RegIdx) (s t : State) : Prop :=
  t.reg q = (if q = 0 then 0 else BitVec.ofInt 64 (n.tdiv d))
    ∧ t.reg (q + 1) = BitVec.ofInt 64 (n.tmod d)
    ∧ (∀ j, j ≠ q → j ≠ q + 1 → t.reg j = s.reg j)
    ∧ t.regs[0] = s.regs[0] ∧ t.flags = s.flags ∧ s.SameButRegsFlags t

/-- `cnt(a)` (R133). -/
def shiftAmount (mode : ShiftMode) (a : Word) : Nat :=
  match mode with
  | .masked6 => a.toNat % 64
  | .mathematical => a.toNat

/-- CF after a shift-left of `v` by `a`, CF being `old` before (R133, R134). -/
def carryAfterShift (mode : ShiftMode) (a v : Word) (old : Bool) : Bool :=
  match mode with
  | .masked6 => if a.toInt < 64 then v.getLsbD ((64 - a.toNat % 64) % 64) else old
  | .mathematical => if a.toNat = 0 then false else if a.toNat < 64 then v.getLsbD (64 - a.toNat) else old

/-- A shift-left of `v` by `a` into x[z] (R134): the low 64 bits of v * 2^cnt, CF as R133 says, no other flag. -/
def ShlEffect (a v : Word) (z : RegIdx) (s t : State) : Prop :=
  s.WritesReg t z (BitVec.ofNat 64 (v.toNat * 2 ^ shiftAmount s.cfg.shiftMode a))
    ∧ t.flags = { s.flags with cf := carryAfterShift s.cfg.shiftMode a v s.flags.cf }
    ∧ s.SameButRegsFlags t

/-- The logical right shift of `v` by `a` (R133, R137): v / 2^cnt. -/
def shrValue (mode : ShiftMode) (a v : Word) : Word := BitVec.ofNat 64 (v.toNat / 2 ^ shiftAmount mode a)

/-- The arithmetic right shift of `v` by `a` (R133, R139): v / 2^cnt, rounded down. -/
def sarValue (mode : ShiftMode) (a v : Word) : Word := BitVec.ofInt 64 (v.toInt / (2 : Int) ^ shiftAmount mode a)

/-! ### Effects of the memory instructions -/

/-- A load of width `n` at `ea` completes where `ea` is aligned (R181, R184): x[z] holds `v`, and nothing else but the trace
differs. The events are the address registers read, the memory read, the register written. -/
def Loads (i : Instr) (s : State) (n : Width) (ea v : Word) (z : RegIdx) (reads : List TraceEvent) : Prop :=
  ea.toNat % widthBytes n = 0 →
    ∃ t, exec i s = .next t ∧ WritesNoFlag v z s t
      ∧ s.Traced t (reads ++ [.memRead ea n (BitVec.ofNat 64 (bigEndian s.mem ea.toNat (widthBytes n))), .regWrite z v])

/-- The zero-extended value a load of width `n` at `ea` gives (R181); for LD8 the value itself. -/
def loadedUnsigned (s : State) (n : Width) (ea : Word) : Word := BitVec.ofNat 64 (bigEndian s.mem ea.toNat (widthBytes n))

/-- The sign-extended value a load of width `n` at `ea` gives (R181). -/
def loadedSigned (s : State) (n : Width) (ea : Word) : Word :=
  BitVec.ofInt 64 (signedBytes (widthBytes n) (bigEndian s.mem ea.toNat (widthBytes n)))

/-- A store of width `n` at `ea` completes where `ea` is aligned and its page is there or can be allocated (R183, R184): the
`n` bytes from `ea` on hold the low bytes of x[z], the most significant first; every other byte of memory, every register,
every flag and everything else is as it was; the page of `ea` is allocated. -/
def Stores (i : Instr) (s : State) (n : Width) (ea : Word) (z : RegIdx) (reads : List TraceEvent) : Prop :=
  s.mem.wf → ea.toNat % widthBytes n = 0 → s.pageReady ea →
    ∃ t, exec i s = .next t
      ∧ (∀ k, k < widthBytes n →
          t.mem.byte (ea.toNat + k) = BitVec.ofNat 8 ((s.reg z).toNat / 2 ^ (8 * (widthBytes n - 1 - k))))
      ∧ s.SameBytesOutside t ea.toNat (widthBytes n)
      ∧ (∀ p, p ∈ t.mem.pages ↔ (p = pageOf ea ∨ p ∈ s.mem.pages))
      ∧ t.regs = s.regs ∧ t.flags = s.flags ∧ s.SameControl t ∧ t.dev = s.dev
      ∧ s.Traced t (reads ++ [.regRead z (s.reg z), .memWrite ea n (s.reg z)])

/-- The address registers of the displacement mode, as read (R180, R317). -/
def readsD (s : State) (y : RegIdx) : List TraceEvent := [.regRead y (s.reg y)]

/-- The address registers of the scaled mode, as read (R182, R317). -/
def readsS (s : State) (x y : RegIdx) : List TraceEvent := [.regRead x (s.reg x), .regRead y (s.reg y)]

/-- The effective address of the displacement mode, as R180 has it. -/
def eaD (s : State) (d : Word) (y : RegIdx) : Word := d + s.reg y

/-- The effective address of the scaled mode (R182): the base, and the index under the scale rule, modulo 2^64. -/
def eaS (s : State) (x y : RegIdx) (scale : Nat) : Word := s.reg x + scaledIndex s.cfg.scaleRule (s.reg y) scale

/-! ### Effects of the other instructions -/

/-- A relative jump by `v` words, taken or not (R251): pc and jumped, nothing else; not even an event. -/
def JumpEffect (taken : Bool) (v : Word) (s t : State) : Prop :=
  t.pc = (if taken then BitVec.ofInt 64 ((s.pc.toNat : Int) + 4 * v.toInt) else s.pc)
    ∧ t.jumped = (taken || s.jumped)
    ∧ t.regs = s.regs ∧ t.flags = s.flags ∧ s.SameStatus t ∧ s.SameMemory t ∧ t.dev = s.dev ∧ t.trace = s.trace

/-- The jump `i` is taken: it completes and marks jumped. -/
def Taken (i : Instr) (s : State) : Prop := ∃ t, exec i s = .next t ∧ t.jumped = true

/-- A halt instruction's effect (R270): exit code, no error, HALTED; nothing else. -/
def HaltEffect (code : Word) (s t : State) : Prop :=
  t.status = .halted ∧ t.exitCode = code ∧ t.lastError = none
    ∧ t.regs = s.regs ∧ t.flags = s.flags ∧ t.pc = s.pc ∧ t.ir = s.ir ∧ t.jumped = s.jumped ∧ t.cfg = s.cfg
    ∧ s.SameMemory t ∧ t.dev = s.dev

/-- A character put out (R273, R275): one `putc(c)`, nothing else. -/
def PutcEffect (c : Byte) (s t : State) : Prop :=
  t.dev.output = s.dev.output ++ [c] ∧ t.dev.input = s.dev.input
    ∧ t.regs = s.regs ∧ t.flags = s.flags ∧ s.SameControl t ∧ s.SameMemory t

/-! ### The step -/

/-- The word the four bytes from address `a` on hold (R52, R111). -/
def wordAt (m : Memory) (a : Nat) : InstrWord := wordOfBytes (m.byte a) (m.byte (a + 1)) (m.byte (a + 2)) (m.byte (a + 3))

/-- The state a meaning runs in: the word at pc fetched, in IR, and on the trace port (R111). -/
def fetched (s : State) : State :=
  (s.emit (.memRead s.pc .b4 ((wordAt s.mem s.pc.toNat).setWidth 64))).setIr (wordAt s.mem s.pc.toNat)

/-- A step of `s` fetches and decodes the instruction `i`: not HALTED, pc aligned, and the four bytes at pc are its word. -/
def Fetches (s : State) (i : Instr) : Prop :=
  s.status ≠ .halted ∧ s.pc.toNat % 4 = 0
    ∧ decode s.cfg.opmap [s.mem.byte s.pc.toNat, s.mem.byte (s.pc.toNat + 1), s.mem.byte (s.pc.toNat + 2),
        s.mem.byte (s.pc.toNat + 3)] = .ok (i, [])

/-- The store `i` of width `n` at `ea` is seen by the next fetch (R72, R338): where a RUNNING step fetches it and it completes,
the step ends RUNNING at the next instruction with IR still the store's own word; memory holds the stored bytes, the most
significant first, and every other byte as before; and the next fetch takes the word of that memory. So an ST4 or ST8 that
covers the next word is what runs next, and an ST8 that starts at the store's own word has replaced the next word too. -/
def StoreSeenByFetch (i : Instr) (s : State) (n : Width) (ea : Word) (z : RegIdx) : Prop :=
  Fetches s i → s.status = .running → s.jumped = false → s.mem.wf → ea.toNat % widthBytes n = 0 → s.pageReady ea →
    ∃ t, step s = .next t ∧ t.status = .running ∧ t.pc = s.pc + 4 ∧ t.ir = wordAt s.mem s.pc.toNat
      ∧ (∀ b, t.mem.byte b =
          if ea.toNat ≤ b ∧ b < ea.toNat + widthBytes n then
            BitVec.ofNat 8 ((s.reg z).toNat / 2 ^ (8 * (ea.toNat + widthBytes n - 1 - b)))
          else s.mem.byte b)
      ∧ (∀ k, fetch t k = k (wordAt t.mem t.pc.toNat) (fetched t))
      ∧ (n = .b4 → ea = s.pc + 4 → wordAt t.mem t.pc.toNat = BitVec.ofNat 32 (s.reg z).toNat)
      ∧ (n = .b8 → ea = s.pc + 4 → wordAt t.mem t.pc.toNat = BitVec.ofNat 32 ((s.reg z).toNat / 2 ^ 32))
      ∧ (n = .b8 → ea = s.pc → wordAt t.mem t.pc.toNat = BitVec.ofNat 32 (s.reg z).toNat)

/-- How many pages an image of `k` words needs that are not allocated (R63, R314): of the pages from 0 on that its 4k bytes
reach into. -/
def newImagePages (m : Memory) (k : Nat) : Nat :=
  ((List.range ((k + 255) / 256)).filter fun p => decide (p ∉ m.pages)).length

/-- The state without its trace. -/
def untraced (s : State) : State := { s with trace := [] }

/-- The meanings of some instructions one after another, with no step around them. -/
def execAll : List Instr → State → Option State
  | [], s => some s
  | i :: is, s =>
    match exec i s with
    | .next t => execAll is t
    | .fault _ => none
    | .refused _ => none

/-! ### Tables -/

/-- The general registers an instruction names as destinations (R22): the registers its rule writes. -/
def destinations : Instr → List RegIdx
  | .haltR _ => []
  | .haltI _ => []
  | .nop => []
  | .addRR _ _ z => [z]
  | .addIR _ _ z => [z]
  | .subRR _ _ z => [z]
  | .subIR _ _ z => [z]
  | .mulRR _ _ z => [z]
  | .mulRI _ _ z => [z]
  | .divuRR _ _ z => [z, z + 1, z + 2]
  | .divuIR _ _ z => [z, z + 1, z + 2]
  | .idivRR _ _ z => [z, z + 1]
  | .idivIR _ _ z => [z, z + 1]
  | .andRR _ _ z => [z]
  | .orRR _ _ z => [z]
  | .notRR _ y => [y]
  | .ldiu _ z => [z]
  | .ldis _ z => [z]
  | .shldi _ z => [z]
  | .shlRR _ _ z => [z]
  | .shlIR _ _ z => [z]
  | .shrRR _ _ z => [z]
  | .shrIR _ _ z => [z]
  | .sarRR _ _ z => [z]
  | .sarIR _ _ z => [z]
  | .getc x => [x]
  | .putcR _ => []
  | .putcI _ => []
  | .jmpAbs _ y => [y]
  | .jmp _ => []
  | .ja _ => []
  | .jbe _ => []
  | .jae _ => []
  | .jb _ => []
  | .jg _ => []
  | .jle _ => []
  | .jge _ => []
  | .jl _ => []
  | .jz _ => []
  | .jnz _ => []
  | .ldu1D _ _ z => [z]
  | .ldu2D _ _ z => [z]
  | .ldu4D _ _ z => [z]
  | .ld8D _ _ z => [z]
  | .lds1D _ _ z => [z]
  | .lds2D _ _ z => [z]
  | .lds4D _ _ z => [z]
  | .st1D _ _ _ => []
  | .st2D _ _ _ => []
  | .st4D _ _ _ => []
  | .st8D _ _ _ => []
  | .ldu1S1 _ _ z => [z]
  | .ldu2S1 _ _ z => [z]
  | .ldu4S1 _ _ z => [z]
  | .ld8S1 _ _ z => [z]
  | .lds1S1 _ _ z => [z]
  | .lds2S1 _ _ z => [z]
  | .lds4S1 _ _ z => [z]
  | .st1S1 _ _ _ => []
  | .st2S1 _ _ _ => []
  | .st4S1 _ _ _ => []
  | .st8S1 _ _ _ => []
  | .ldu1S2 _ _ z => [z]
  | .ldu2S2 _ _ z => [z]
  | .ldu4S2 _ _ z => [z]
  | .ld8S2 _ _ z => [z]
  | .lds1S2 _ _ z => [z]
  | .lds2S2 _ _ z => [z]
  | .lds4S2 _ _ z => [z]
  | .st1S2 _ _ _ => []
  | .st2S2 _ _ _ => []
  | .st4S2 _ _ _ => []
  | .st8S2 _ _ _ => []
  | .ldu1S4 _ _ z => [z]
  | .ldu2S4 _ _ z => [z]
  | .ldu4S4 _ _ z => [z]
  | .ld8S4 _ _ z => [z]
  | .lds1S4 _ _ z => [z]
  | .lds2S4 _ _ z => [z]
  | .lds4S4 _ _ z => [z]
  | .st1S4 _ _ _ => []
  | .st2S4 _ _ _ => []
  | .st4S4 _ _ _ => []
  | .st8S4 _ _ _ => []
  | .ldu1S8 _ _ z => [z]
  | .ldu2S8 _ _ z => [z]
  | .ldu4S8 _ _ z => [z]
  | .ld8S8 _ _ z => [z]
  | .lds1S8 _ _ z => [z]
  | .lds2S8 _ _ z => [z]
  | .lds4S8 _ _ z => [z]
  | .st1S8 _ _ _ => []
  | .st2S8 _ _ _ => []
  | .st4S8 _ _ _ => []
  | .st8S8 _ _ _ => []

/-- Which flags a kind may write (R25): ZF, CF, OF, SF. -/
def flagsWritten : Kind → Flags
  | .haltR => { zf := false, cf := false, of := false, sf := false }
  | .haltI => { zf := false, cf := false, of := false, sf := false }
  | .nop => { zf := false, cf := false, of := false, sf := false }
  | .addRR => { zf := true, cf := true, of := true, sf := true }
  | .addIR => { zf := true, cf := true, of := true, sf := true }
  | .subRR => { zf := true, cf := true, of := true, sf := true }
  | .subIR => { zf := true, cf := true, of := true, sf := true }
  | .mulRR => { zf := false, cf := true, of := true, sf := false }
  | .mulRI => { zf := false, cf := true, of := true, sf := false }
  | .divuRR => { zf := false, cf := false, of := false, sf := false }
  | .divuIR => { zf := false, cf := false, of := false, sf := false }
  | .idivRR => { zf := false, cf := false, of := false, sf := false }
  | .idivIR => { zf := false, cf := false, of := false, sf := false }
  | .andRR => { zf := true, cf := false, of := false, sf := false }
  | .orRR => { zf := true, cf := false, of := false, sf := false }
  | .notRR => { zf := true, cf := false, of := false, sf := false }
  | .ldiu => { zf := true, cf := false, of := false, sf := false }
  | .ldis => { zf := true, cf := false, of := false, sf := false }
  | .shldi => { zf := true, cf := false, of := false, sf := false }
  | .shlRR => { zf := false, cf := true, of := false, sf := false }
  | .shlIR => { zf := false, cf := true, of := false, sf := false }
  | .shrRR => { zf := false, cf := false, of := false, sf := false }
  | .shrIR => { zf := false, cf := false, of := false, sf := false }
  | .sarRR => { zf := false, cf := false, of := false, sf := false }
  | .sarIR => { zf := false, cf := false, of := false, sf := false }
  | .getc => { zf := false, cf := false, of := false, sf := false }
  | .putcR => { zf := false, cf := false, of := false, sf := false }
  | .putcI => { zf := false, cf := false, of := false, sf := false }
  | .jmpAbs => { zf := false, cf := false, of := false, sf := false }
  | .jmp => { zf := false, cf := false, of := false, sf := false }
  | .ja => { zf := false, cf := false, of := false, sf := false }
  | .jbe => { zf := false, cf := false, of := false, sf := false }
  | .jae => { zf := false, cf := false, of := false, sf := false }
  | .jb => { zf := false, cf := false, of := false, sf := false }
  | .jg => { zf := false, cf := false, of := false, sf := false }
  | .jle => { zf := false, cf := false, of := false, sf := false }
  | .jge => { zf := false, cf := false, of := false, sf := false }
  | .jl => { zf := false, cf := false, of := false, sf := false }
  | .jz => { zf := false, cf := false, of := false, sf := false }
  | .jnz => { zf := false, cf := false, of := false, sf := false }
  | .ldu1D => { zf := false, cf := false, of := false, sf := false }
  | .ldu2D => { zf := false, cf := false, of := false, sf := false }
  | .ldu4D => { zf := false, cf := false, of := false, sf := false }
  | .ld8D => { zf := false, cf := false, of := false, sf := false }
  | .lds1D => { zf := false, cf := false, of := false, sf := false }
  | .lds2D => { zf := false, cf := false, of := false, sf := false }
  | .lds4D => { zf := false, cf := false, of := false, sf := false }
  | .st1D => { zf := false, cf := false, of := false, sf := false }
  | .st2D => { zf := false, cf := false, of := false, sf := false }
  | .st4D => { zf := false, cf := false, of := false, sf := false }
  | .st8D => { zf := false, cf := false, of := false, sf := false }
  | .ldu1S1 => { zf := false, cf := false, of := false, sf := false }
  | .ldu2S1 => { zf := false, cf := false, of := false, sf := false }
  | .ldu4S1 => { zf := false, cf := false, of := false, sf := false }
  | .ld8S1 => { zf := false, cf := false, of := false, sf := false }
  | .lds1S1 => { zf := false, cf := false, of := false, sf := false }
  | .lds2S1 => { zf := false, cf := false, of := false, sf := false }
  | .lds4S1 => { zf := false, cf := false, of := false, sf := false }
  | .st1S1 => { zf := false, cf := false, of := false, sf := false }
  | .st2S1 => { zf := false, cf := false, of := false, sf := false }
  | .st4S1 => { zf := false, cf := false, of := false, sf := false }
  | .st8S1 => { zf := false, cf := false, of := false, sf := false }
  | .ldu1S2 => { zf := false, cf := false, of := false, sf := false }
  | .ldu2S2 => { zf := false, cf := false, of := false, sf := false }
  | .ldu4S2 => { zf := false, cf := false, of := false, sf := false }
  | .ld8S2 => { zf := false, cf := false, of := false, sf := false }
  | .lds1S2 => { zf := false, cf := false, of := false, sf := false }
  | .lds2S2 => { zf := false, cf := false, of := false, sf := false }
  | .lds4S2 => { zf := false, cf := false, of := false, sf := false }
  | .st1S2 => { zf := false, cf := false, of := false, sf := false }
  | .st2S2 => { zf := false, cf := false, of := false, sf := false }
  | .st4S2 => { zf := false, cf := false, of := false, sf := false }
  | .st8S2 => { zf := false, cf := false, of := false, sf := false }
  | .ldu1S4 => { zf := false, cf := false, of := false, sf := false }
  | .ldu2S4 => { zf := false, cf := false, of := false, sf := false }
  | .ldu4S4 => { zf := false, cf := false, of := false, sf := false }
  | .ld8S4 => { zf := false, cf := false, of := false, sf := false }
  | .lds1S4 => { zf := false, cf := false, of := false, sf := false }
  | .lds2S4 => { zf := false, cf := false, of := false, sf := false }
  | .lds4S4 => { zf := false, cf := false, of := false, sf := false }
  | .st1S4 => { zf := false, cf := false, of := false, sf := false }
  | .st2S4 => { zf := false, cf := false, of := false, sf := false }
  | .st4S4 => { zf := false, cf := false, of := false, sf := false }
  | .st8S4 => { zf := false, cf := false, of := false, sf := false }
  | .ldu1S8 => { zf := false, cf := false, of := false, sf := false }
  | .ldu2S8 => { zf := false, cf := false, of := false, sf := false }
  | .ldu4S8 => { zf := false, cf := false, of := false, sf := false }
  | .ld8S8 => { zf := false, cf := false, of := false, sf := false }
  | .lds1S8 => { zf := false, cf := false, of := false, sf := false }
  | .lds2S8 => { zf := false, cf := false, of := false, sf := false }
  | .lds4S8 => { zf := false, cf := false, of := false, sf := false }
  | .st1S8 => { zf := false, cf := false, of := false, sf := false }
  | .st2S8 => { zf := false, cf := false, of := false, sf := false }
  | .st4S8 => { zf := false, cf := false, of := false, sf := false }
  | .st8S8 => { zf := false, cf := false, of := false, sf := false }

/-- The memory kinds in the order of R91: a row per mode, a column per operation. -/
def memoryGrid : List (List Kind) :=
  ([[.ldu1D, .ldu2D, .ldu4D, .ld8D, .lds1D, .lds2D, .lds4D, .st1D, .st2D, .st4D, .st8D],
    [.ldu1S1, .ldu2S1, .ldu4S1, .ld8S1, .lds1S1, .lds2S1, .lds4S1, .st1S1, .st2S1, .st4S1, .st8S1],
    [.ldu1S2, .ldu2S2, .ldu4S2, .ld8S2, .lds1S2, .lds2S2, .lds4S2, .st1S2, .st2S2, .st4S2, .st8S2],
    [.ldu1S4, .ldu2S4, .ldu4S4, .ld8S4, .lds1S4, .lds2S4, .lds4S4, .st1S4, .st2S4, .st4S4, .st8S4],
    [.ldu1S8, .ldu2S8, .ldu4S8, .ld8S8, .lds1S8, .lds2S8, .lds4S8, .st1S8, .st2S8, .st4S8, .st8S8]] : List (List Kind))

end Sys2Proof.Claims

open Sys2Proof Sys2Proof.Machine Sys2Proof.Claims

/-- Decoding the word of a well-formed instruction gives the instruction back, under every opcode map that is a
function (R80, R81, R82, R84, R87). The spec marks R87 as resting on its own decisions D3, D4. -/
def Obligations.EncodedInstructionDecodesBack : Prop :=
  ∀ (m : OpMap) (i : Instr), m.functional = true → WellFormed m i = true →
    ∃ w, encode m i = some w ∧ decodeWord m w = .ok i
      ∧ ∀ rest, decode m (bytesOfWord w ++ rest) = .ok (i, rest)

/-- Encoding what a word decodes to gives the word back, with its ignored bits 0 (R87, R88). The spec marks R87 as
resting on its own decisions D3, D4. It marks R88 as derived. That the encoder writes 0 in an ignored bit is the
model's choice (log 16): no rule says it. -/
def Obligations.DecodedWordEncodesBack : Prop :=
  ∀ (w : InstrWord) (i : Instr), decodeWord refOpmap w = .ok i →
    ∃ w', encode refOpmap i = some w' ∧ opcodeBits w' = opcodeBits w
      ∧ fieldBits w' = fieldBits w &&& usedBits (formatOf i.kind)

/-- A bit marked ignored does not affect what a word decodes to and makes no word illegal (R88). The spec marks R88 as
derived. -/
def Obligations.IgnoredBitsDoNotMatter : Prop :=
  (∀ (m : OpMap) (w w' : InstrWord), opcodeBits w = opcodeBits w' →
      (∀ k, m.kindAt (opcodeBits w) = some k →
        fieldBits w &&& usedBits (formatOf k) = fieldBits w' &&& usedBits (formatOf k)) →
      decodeWord m w = decodeWord m w')
    ∧ (∀ (m : OpMap) (w : InstrWord) (k : Kind), m.kindAt (opcodeBits w) = some k → ∃ i, decodeWord m w = .ok i)
    ∧ Encodes 0x03FFFFFF#32 .nop ∧ Encodes 0x03000000#32 .nop

/-- The operand decoder gives the nine values of R82 for every 24-bit field, and its worked example (R82). -/
def Obligations.OperandDecoderNineValues : Prop :=
  (∀ f : OperandField,
      (decodeOperands f).rX.toNat = f.toNat / 65536
      ∧ (decodeOperands f).rY.toNat = f.toNat / 256 % 256
      ∧ (decodeOperands f).rZ.toNat = f.toNat % 256
      ∧ (decodeOperands f).uX.toNat = f.toNat / 65536
      ∧ (decodeOperands f).uXY.toNat = f.toNat / 256
      ∧ (decodeOperands f).sX.toInt = signedBytes 1 (f.toNat / 65536)
      ∧ (decodeOperands f).sY.toInt = signedBytes 1 (f.toNat / 256 % 256)
      ∧ (decodeOperands f).sXY.toInt = signedBytes 2 (f.toNat / 256)
      ∧ (decodeOperands f).sXYZ.toInt = signedBytes 3 f.toNat)
    ∧ (decodeOperands 0xAABBCC#24).rX = 0xAA#8 ∧ (decodeOperands 0xAABBCC#24).rY = 0xBB#8
    ∧ (decodeOperands 0xAABBCC#24).rZ = 0xCC#8 ∧ (decodeOperands 0xAABBCC#24).uX = 0xAA#64
    ∧ (decodeOperands 0xAABBCC#24).uXY = 0xAABB#64 ∧ (decodeOperands 0xAABBCC#24).sX.toInt = -86
    ∧ (decodeOperands 0xAABBCC#24).sY.toInt = -69 ∧ (decodeOperands 0xAABBCC#24).sXY.toInt = -21829
    ∧ (decodeOperands 0xAABBCC#24).sXYZ.toInt = -5588020

/-- REF_OPMAP conforms, maps 95 opcodes, and leaves 161 illegal, 0x00 and 0xFF among them (R85, R86). The spec marks
R85, R86 as resting on its own decisions D1, D27. -/
def Obligations.ReferenceMapConforms : Prop :=
  refOpmap.conforming = true
    ∧ (List.range 256).countP (fun op => (refOpmap.kindAt (BitVec.ofNat 8 op)).isSome) = 95
    ∧ (List.range 256).countP (fun op => (refOpmap.kindAt (BitVec.ofNat 8 op)).isNone) = 161
    ∧ refOpmap.kindAt 0x00#8 = none ∧ refOpmap.kindAt 0xFF#8 = none

/-- Under REF_OPMAP the memory kind of mode m and operation i has opcode 0x80 + 11*m + i (R91). The spec marks R91 as
resting on its own decisions D1. -/
def Obligations.MemoryGridNumbering : Prop :=
  (∀ m, m < 5 → ∀ i, i < 11 →
      refOpmap.kindAt (BitVec.ofNat 8 (0x80 + 11 * m + i)) = memoryGrid[m]?.bind (fun row => row[i]?))
    ∧ (∀ m, m < 5 → ∀ i, i < 11 → (refOpmap.kindAt (BitVec.ofNat 8 (0x80 + 11 * m + i))).isSome = true)
    ∧ memoryGrid.flatten.length = 55

/-- A few words written out from the encoding tables decode to the instructions they stand for (R86, R87, R90). The
spec marks R86, R87, R90 as resting on its own decisions D1, D2, D3, D4, D27. -/
def Obligations.WrittenOutWordsDecode : Prop :=
  Encodes 0x28ABCD01#32 (.ldiu 0xABCD#64 1#8) ∧ Encodes 0x29FFFF01#32 (.ldis 0xFFFFFFFFFFFFFFFF#64 1#8)
    ∧ Encodes 0x2C3F0203#32 (.shlIR 63#64 2#8 3#8) ∧ Encodes 0x12010203#32 (.subRR 1#8 2#8 3#8)
    ∧ Encodes 0x1501FD03#32 (.mulRI 1#8 0xFFFFFFFFFFFFFFFD#64 3#8) ∧ Encodes 0x22010200#32 (.notRR 1#8 2#8)
    ∧ Encodes 0x83F80203#32 (.ld8D 0xFFFFFFFFFFFFFFF8#64 2#8 3#8) ∧ Encodes 0xB6010203#32 (.st8S8 1#8 2#8 3#8)
    ∧ Encodes 0x41FFFFFB#32 (.jmp 0xFFFFFFFFFFFFFFFB#64) ∧ Encodes 0x40050600#32 (.jmpAbs 5#8 6#8)
    ∧ Encodes 0x38050000#32 (.getc 5#8)

/-- MemRead: alignment before bounds, the big-endian value zero-extended, one event, no allocation (R55, R57). -/
def Obligations.MemReadPrimitive : Prop :=
  (∀ (a : Word) (n : Width) (s : State) (k : Word → State → Result),
      memRead a n s k =
        if a.toNat % 1024 % widthBytes n ≠ 0 then .next (s.faulted (.memoryMisaligned a n))
        else if a.toNat % 1024 + widthBytes n > 1024 then .next (s.faulted (.memoryOutOfBounds a n))
        else k (BitVec.ofNat 64 (bigEndian s.mem a.toNat (widthBytes n)))
          (s.emit (.memRead a n (BitVec.ofNat 64 (bigEndian s.mem a.toNat (widthBytes n))))))
    ∧ (∀ (a : Word) (n : Width) (m : Memory), m.wf → a.toNat % 1024 + widthBytes n ≤ 1024 → a.toNat / 1024 ∉ m.pages →
        bigEndian m a.toNat (widthBytes n) = 0)
    ∧ (∀ (m : Memory) (a : Nat) (n : Width), bigEndian m a (widthBytes n) < 2 ^ (8 * widthBytes n))

/-- MemWrite: the checks first, then the page, then the low bytes most significant first, one event with the value
requested (R58, R60). The spec marks R60 as resting on its own decisions D32. -/
def Obligations.MemWritePrimitive : Prop :=
  ∀ (a : Word) (n : Width) (v : Word) (s : State) (k : State → Result), s.mem.wf →
    (a.toNat % 1024 % widthBytes n ≠ 0 → memWrite a n v s k = .next (s.faulted (.memoryMisaligned a n)))
    ∧ (a.toNat % 1024 % widthBytes n = 0 → a.toNat % 1024 + widthBytes n > 1024 →
        memWrite a n v s k = .next (s.faulted (.memoryOutOfBounds a n)))
    ∧ (a.toNat % 1024 % widthBytes n = 0 → a.toNat % 1024 + widthBytes n ≤ 1024 →
        a.toNat / 1024 ∉ s.mem.pages → s.cfg.pageCapacity = some s.mem.pages.length →
        memWrite a n v s k = .next (s.faulted (.pageAllocFailure a n)))
    ∧ (a.toNat % 1024 % widthBytes n = 0 → a.toNat % 1024 + widthBytes n ≤ 1024 →
        (a.toNat / 1024 ∈ s.mem.pages ∨ s.cfg.pageCapacity ≠ some s.mem.pages.length) →
        ∃ m : Memory, memWrite a n v s k = k ((s.setMem m).emit (.memWrite a n v)) ∧ m.wf
          ∧ (∀ j, j < widthBytes n →
              m.byte (a.toNat + j) = BitVec.ofNat 8 (v.toNat / 2 ^ (8 * (widthBytes n - 1 - j))))
          ∧ (∀ b, (b < a.toNat ∨ a.toNat + widthBytes n ≤ b) → m.byte b = s.mem.byte b)
          ∧ (∀ p, p ∈ m.pages ↔ (p = a.toNat / 1024 ∨ p ∈ s.mem.pages)))
    ∧ (∀ e, (s.faulted e).mem = s.mem)

/-- A read after a write of the same width gives the low bytes written; an access elsewhere reads as before (R52, R55,
R58, R66). -/
def Obligations.WriteThenReadRoundTrip : Prop :=
  ∀ (m : Memory) (a : Word) (n : Width) (v : Word), m.wf → accessError a n = none →
    (m.write a n v).read a n = BitVec.ofNat 64 (v.toNat % 2 ^ (8 * widthBytes n))
    ∧ ∀ (b : Word) (k : Width),
        (b.toNat + widthBytes k ≤ a.toNat ∨ a.toNat + widthBytes n ≤ b.toNat) → (m.write a n v).read b k = m.read b k

/-- The source's memory examples: the round trip, the mixed widths and the two separate addresses (R51, R52, R66). -/
def Obligations.SourceMemoryExamples : Prop :=
  (State.reset.mem.write 0#64 .b4 0x89ABCDEF#64).read 0#64 .b4 = 0x89ABCDEF#64
    ∧ ((State.reset.mem.write 0#64 .b4 0x89ABCDEF#64).write 3#64 .b3 0x01234567#64).read 0#64 .b8 = 0x89ABCD2345670000#64
    ∧ ((State.reset.mem.write 0#64 .b4 0x11111111#64).write (-4#64) .b4 0x22222222#64).read 0#64 .b4 = 0x11111111#64
    ∧ ((State.reset.mem.write 0#64 .b4 0x11111111#64).write (-4#64) .b4 0x22222222#64).read (-4#64) .b4 = 0x22222222#64
    ∧ ((State.reset.mem.write 0#64 .b4 0x11111111#64).write (-4#64) .b4 0x22222222#64).pages = [0, 2 ^ 54 - 1]

/-- LDIU and LDIS write their immediate and ZF, and nothing else (R130, R131). -/
def Obligations.ImmediateLoadsWriteValueAndZf : Prop :=
  (∀ (u : BitVec 16) (z : Byte), Encodes (0x28#8 ++ u ++ z) (.ldiu (zeroExt u) z))
    ∧ (∀ (v : BitVec 16) (z : Byte), Encodes (0x29#8 ++ v ++ z) (.ldis (signExt v) z))
    ∧ (∀ (u : Word) (z : RegIdx) (s : State), ∃ t, exec (.ldiu u z) s = .next t
        ∧ WritesWithZf u z s t ∧ s.Traced t [.regWrite z u])
    ∧ (∀ (v : Word) (z : RegIdx) (s : State), ∃ t, exec (.ldis v z) s = .next t
        ∧ WritesWithZf v z s t ∧ s.Traced t [.regWrite z v])

/-- SHLDI writes (old * 2^16 + uXY) modulo 2^64 and ZF, and nothing else (R132). -/
def Obligations.ShiftLeftAndLoad : Prop :=
  (∀ (u : BitVec 16) (z : Byte), Encodes (0x2A#8 ++ u ++ z) (.shldi (zeroExt u) z))
    ∧ (∀ (u : Word) (z : RegIdx) (s : State), ∃ t, exec (.shldi u z) s = .next t
        ∧ WritesWithZf (BitVec.ofNat 64 ((s.reg z).toNat * 65536 + u.toNat)) z s t
        ∧ s.Traced t [.regRead z (s.reg z), .regWrite z (BitVec.ofNat 64 ((s.reg z).toNat * 65536 + u.toNat))])

/-- SHL_RR and SHL_IR in both shift modes: the result, CF where the amount allows, nothing else (R133, R134, R135).
The spec marks R133, R134, R135 as resting on its own decisions D5, D6. -/
def Obligations.ShiftLeftResultAndCarry : Prop :=
  (∀ x y z : Byte, Encodes (0x2B#8 ++ x ++ y ++ z) (.shlRR x y z))
    ∧ (∀ u y z : Byte, Encodes (0x2C#8 ++ u ++ y ++ z) (.shlIR (zeroExt u) y z))
    ∧ (∀ (x y z : RegIdx) (s : State), ∃ t, exec (.shlRR x y z) s = .next t ∧ ShlEffect (s.reg x) (s.reg y) z s t
        ∧ s.Traced t [.regRead x (s.reg x), .regRead y (s.reg y),
            .regWrite z (BitVec.ofNat 64 ((s.reg y).toNat * 2 ^ shiftAmount s.cfg.shiftMode (s.reg x)))])
    ∧ (∀ (u : Word) (y z : RegIdx) (s : State), ∃ t, exec (.shlIR u y z) s = .next t ∧ ShlEffect u (s.reg y) z s t
        ∧ s.Traced t [.regRead y (s.reg y),
            .regWrite z (BitVec.ofNat 64 ((s.reg y).toNat * 2 ^ shiftAmount s.cfg.shiftMode u))])
    ∧ (∀ (mode : ShiftMode) (a v : Word) (old : Bool), 1 ≤ a.toNat → a.toNat ≤ 63 →
        shiftAmount mode a = a.toNat ∧ carryAfterShift mode a v old = v.getLsbD (64 - a.toNat))

/-- The four right shifts in both shift modes: v / 2^cnt, unsigned or rounded down, and no flag (R137, R138, R139,
R140). The spec marks R137, R138, R139, R140 as resting on its own decisions D5, D27. -/
def Obligations.ShiftRightResults : Prop :=
  (∀ x y z : Byte, Encodes (0x2D#8 ++ x ++ y ++ z) (.shrRR x y z))
    ∧ (∀ u y z : Byte, Encodes (0x2E#8 ++ u ++ y ++ z) (.shrIR (zeroExt u) y z))
    ∧ (∀ x y z : Byte, Encodes (0x2F#8 ++ x ++ y ++ z) (.sarRR x y z))
    ∧ (∀ u y z : Byte, Encodes (0x30#8 ++ u ++ y ++ z) (.sarIR (zeroExt u) y z))
    ∧ (∀ (x y z : RegIdx) (s : State), ∃ t, exec (.shrRR x y z) s = .next t
        ∧ WritesNoFlag (shrValue s.cfg.shiftMode (s.reg x) (s.reg y)) z s t
        ∧ s.Traced t [.regRead x (s.reg x), .regRead y (s.reg y),
            .regWrite z (shrValue s.cfg.shiftMode (s.reg x) (s.reg y))])
    ∧ (∀ (u : Word) (y z : RegIdx) (s : State), ∃ t, exec (.shrIR u y z) s = .next t
        ∧ WritesNoFlag (shrValue s.cfg.shiftMode u (s.reg y)) z s t
        ∧ s.Traced t [.regRead y (s.reg y), .regWrite z (shrValue s.cfg.shiftMode u (s.reg y))])
    ∧ (∀ (x y z : RegIdx) (s : State), ∃ t, exec (.sarRR x y z) s = .next t
        ∧ WritesNoFlag (sarValue s.cfg.shiftMode (s.reg x) (s.reg y)) z s t
        ∧ s.Traced t [.regRead x (s.reg x), .regRead y (s.reg y),
            .regWrite z (sarValue s.cfg.shiftMode (s.reg x) (s.reg y))])
    ∧ (∀ (u : Word) (y z : RegIdx) (s : State), ∃ t, exec (.sarIR u y z) s = .next t
        ∧ WritesNoFlag (sarValue s.cfg.shiftMode u (s.reg y)) z s t
        ∧ s.Traced t [.regRead y (s.reg y), .regWrite z (sarValue s.cfg.shiftMode u (s.reg y))])

/-- ADD_RR and ADD_IR: the sum modulo 2^64 and all four flags, exactly (R150, R151). The spec marks R151 as resting on
its own decisions D4. -/
def Obligations.AddResultAndFlags : Prop :=
  (∀ x y z : Byte, Encodes (0x10#8 ++ x ++ y ++ z) (.addRR x y z))
    ∧ (∀ u y z : Byte, Encodes (0x11#8 ++ u ++ y ++ z) (.addIR (zeroExt u) y z))
    ∧ (∀ (x y z : RegIdx) (s : State), ∃ t, exec (.addRR x y z) s = .next t ∧ AddEffect (s.reg x) (s.reg y) z s t
        ∧ s.Traced t [.regRead x (s.reg x), .regRead y (s.reg y),
            .regWrite z (BitVec.ofNat 64 ((s.reg x).toNat + (s.reg y).toNat))])
    ∧ (∀ (u : Word) (y z : RegIdx) (s : State), ∃ t, exec (.addIR u y z) s = .next t ∧ AddEffect u (s.reg y) z s t
        ∧ s.Traced t [.regRead y (s.reg y), .regWrite z (BitVec.ofNat 64 (u.toNat + (s.reg y).toNat))])

/-- SUB_RR and SUB_IR: y - x, the first operand the subtrahend, and all four flags, exactly (R152, R153). The spec
marks R153 as resting on its own decisions D4. It marks R152 as derived. -/
def Obligations.SubtractResultAndFlags : Prop :=
  (∀ x y z : Byte, Encodes (0x12#8 ++ x ++ y ++ z) (.subRR x y z))
    ∧ (∀ u y z : Byte, Encodes (0x13#8 ++ u ++ y ++ z) (.subIR (zeroExt u) y z))
    ∧ (∀ (x y z : RegIdx) (s : State), ∃ t, exec (.subRR x y z) s = .next t ∧ SubEffect (s.reg x) (s.reg y) z s t
        ∧ s.Traced t [.regRead x (s.reg x), .regRead y (s.reg y),
            .regWrite z (BitVec.ofInt 64 ((s.reg y).toInt - (s.reg x).toInt))])
    ∧ (∀ (u : Word) (y z : RegIdx) (s : State), ∃ t, exec (.subIR u y z) s = .next t ∧ SubEffect u (s.reg y) z s t
        ∧ s.Traced t [.regRead y (s.reg y), .regWrite z (BitVec.ofInt 64 ((s.reg y).toInt - u.toInt))])

/-- MUL_RR and MUL_RI: the low 64 bits, and CF and OF in every MUL_OVF_MODE and MUL_FLAG_MODE (R154, R155, R156). The
spec marks R154, R156 as resting on its own decisions D4, D7, D8. -/
def Obligations.MultiplyResultAndOverflow : Prop :=
  (∀ x y z : Byte, Encodes (0x14#8 ++ x ++ y ++ z) (.mulRR x y z))
    ∧ (∀ x v z : Byte, Encodes (0x15#8 ++ x ++ v ++ z) (.mulRI x (signExt v) z))
    ∧ (∀ (x y z : RegIdx) (s : State), ∃ t, exec (.mulRR x y z) s = .next t ∧ MulEffect (s.reg x) (s.reg y) z s t
        ∧ s.Traced t [.regRead x (s.reg x), .regRead y (s.reg y),
            .regWrite z (BitVec.ofNat 64 ((s.reg x).toNat * (s.reg y).toNat))])
    ∧ (∀ (x : RegIdx) (v : Word) (z : RegIdx) (s : State), ∃ t, exec (.mulRI x v z) s = .next t
        ∧ MulEffect (s.reg x) v z s t
        ∧ s.Traced t [.regRead x (s.reg x), .regWrite z (BitVec.ofNat 64 ((s.reg x).toNat * v.toNat))])

/-- DIVU_RR and DIVU_IR with a nonzero divisor and indices in range: the 128-bit quotient and the remainder (R157,
R158, R159). The spec marks R157 as resting on its own decisions D9, D11, D33. -/
def Obligations.UnsignedWideDivideCompletes : Prop :=
  (∀ x y z : Byte, Encodes (0x16#8 ++ x ++ y ++ z) (.divuRR x y z))
    ∧ (∀ u y z : Byte, Encodes (0x17#8 ++ u ++ y ++ z) (.divuIR (zeroExt u) y z))
    ∧ (∀ (x y z : RegIdx) (s : State), y.toNat ≤ 254 → z.toNat ≤ 253 → s.reg x ≠ 0 →
        ∃ t, exec (.divuRR x y z) s = .next t
          ∧ DivuEffect (s.reg x).toNat (dividend (s.reg y) (s.reg (y + 1))) z s t
          ∧ s.Traced t (.regRead x (s.reg x) :: [.regRead y (s.reg y), .regRead (y + 1) (s.reg (y + 1)),
              .regWrite z (BitVec.ofNat 64 (dividend (s.reg y) (s.reg (y + 1)) / (s.reg x).toNat)),
              .regWrite (z + 1) (BitVec.ofNat 64 (dividend (s.reg y) (s.reg (y + 1)) / (s.reg x).toNat / 2 ^ 64)),
              .regWrite (z + 2) (BitVec.ofNat 64 (dividend (s.reg y) (s.reg (y + 1)) % (s.reg x).toNat))]))
    ∧ (∀ (u : Word) (y z : RegIdx) (s : State), y.toNat ≤ 254 → z.toNat ≤ 253 → u ≠ 0 →
        ∃ t, exec (.divuIR u y z) s = .next t
          ∧ DivuEffect u.toNat (dividend (s.reg y) (s.reg (y + 1))) z s t
          ∧ s.Traced t ([.regRead y (s.reg y), .regRead (y + 1) (s.reg (y + 1)),
              .regWrite z (BitVec.ofNat 64 (dividend (s.reg y) (s.reg (y + 1)) / u.toNat)),
              .regWrite (z + 1) (BitVec.ofNat 64 (dividend (s.reg y) (s.reg (y + 1)) / u.toNat / 2 ^ 64)),
              .regWrite (z + 2) (BitVec.ofNat 64 (dividend (s.reg y) (s.reg (y + 1)) % u.toNat))]))

/-- IDIV_RR and IDIV_IR with a nonzero divisor and index in range: quotient toward zero and remainder (R160, R161,
R162). The spec marks R160, R162 as resting on its own decisions D4, D9, D10, D11, D27, D33. It marks R160 as derived.
-/
def Obligations.SignedDivideCompletes : Prop :=
  (∀ x y z : Byte, Encodes (0x18#8 ++ x ++ y ++ z) (.idivRR x y z))
    ∧ (∀ d y z : Byte, Encodes (0x19#8 ++ d ++ y ++ z) (.idivIR (signExt d) y z))
    ∧ (∀ (x y z : RegIdx) (s : State), z.toNat ≤ 254 → s.reg x ≠ 0 →
        ∃ t, exec (.idivRR x y z) s = .next t ∧ IdivEffect (s.reg x).toInt (s.reg y).toInt z s t
          ∧ s.Traced t (.regRead x (s.reg x) :: [.regRead y (s.reg y), .regWrite z (BitVec.ofInt 64 ((s.reg y).toInt.tdiv (s.reg x).toInt)),
              .regWrite (z + 1) (BitVec.ofInt 64 ((s.reg y).toInt.tmod (s.reg x).toInt))]))
    ∧ (∀ (v : Word) (y z : RegIdx) (s : State), z.toNat ≤ 254 → v ≠ 0 →
        ∃ t, exec (.idivIR v y z) s = .next t ∧ IdivEffect v.toInt (s.reg y).toInt z s t
          ∧ s.Traced t ([.regRead y (s.reg y), .regWrite z (BitVec.ofInt 64 ((s.reg y).toInt.tdiv v.toInt)),
              .regWrite (z + 1) (BitVec.ofInt 64 ((s.reg y).toInt.tmod v.toInt))]))

/-- The divides fault on the register range first, then on a zero divisor, and no register is written (R157, R158,
R159, R160, R161, R162, R302, R307). The spec marks R157, R160, R162, R302, R307 as resting on its own decisions D4,
D9, D10, D11, D27, D32, D33. It marks R160 as derived. -/
def Obligations.DividesTrapBeforeAnyWrite : Prop :=
  (∀ (x y z : RegIdx) (s : State), (y.toNat = 255 ∨ 254 ≤ z.toNat) →
        TrapsWith (.divuRR x y z) s (.registerIndexOutOfRange [y, z]))
    ∧ (∀ (u : Word) (y z : RegIdx) (s : State), (y.toNat = 255 ∨ 254 ≤ z.toNat) →
        TrapsWith (.divuIR u y z) s (.registerIndexOutOfRange [y, z]))
    ∧ (∀ (x y z : RegIdx) (s : State), y.toNat ≤ 254 → z.toNat ≤ 253 → s.reg x = 0 →
        TrapsWith (.divuRR x y z) s (.arithmeticFault .divideByZero))
    ∧ (∀ (y z : RegIdx) (s : State), y.toNat ≤ 254 → z.toNat ≤ 253 →
        TrapsWith (.divuIR 0 y z) s (.arithmeticFault .divideByZero))
    ∧ (∀ (x y z : RegIdx) (s : State), z.toNat = 255 → TrapsWith (.idivRR x y z) s (.registerIndexOutOfRange [z]))
    ∧ (∀ (v : Word) (y z : RegIdx) (s : State), z.toNat = 255 → TrapsWith (.idivIR v y z) s (.registerIndexOutOfRange [z]))
    ∧ (∀ (x y z : RegIdx) (s : State), z.toNat ≤ 254 → s.reg x = 0 →
        TrapsWith (.idivRR x y z) s (.arithmeticFault .divideByZero))
    ∧ (∀ (y z : RegIdx) (s : State), z.toNat ≤ 254 → TrapsWith (.idivIR 0 y z) s (.arithmeticFault .divideByZero))

/-- AND_RR, OR_RR and NOT: the bitwise result and ZF, nothing else (R170, R171, R172). -/
def Obligations.LogicResults : Prop :=
  (∀ x y z : Byte, Encodes (0x20#8 ++ x ++ y ++ z) (.andRR x y z))
    ∧ (∀ x y z : Byte, Encodes (0x21#8 ++ x ++ y ++ z) (.orRR x y z))
    ∧ (∀ x y z : Byte, Encodes (0x22#8 ++ x ++ y ++ z) (.notRR x y))
    ∧ (∀ (x y z : RegIdx) (s : State), ∃ t v, exec (.andRR x y z) s = .next t ∧ WritesWithZf v z s t
        ∧ (∀ i, i < 64 → v.getLsbD i = ((s.reg x).getLsbD i && (s.reg y).getLsbD i))
        ∧ s.Traced t [.regRead x (s.reg x), .regRead y (s.reg y), .regWrite z v])
    ∧ (∀ (x y z : RegIdx) (s : State), ∃ t v, exec (.orRR x y z) s = .next t ∧ WritesWithZf v z s t
        ∧ (∀ i, i < 64 → v.getLsbD i = ((s.reg x).getLsbD i || (s.reg y).getLsbD i))
        ∧ s.Traced t [.regRead x (s.reg x), .regRead y (s.reg y), .regWrite z v])
    ∧ (∀ (x y : RegIdx) (s : State), ∃ t v, exec (.notRR x y) s = .next t ∧ WritesWithZf v y s t
        ∧ (∀ i, i < 64 → v.getLsbD i = !(s.reg x).getLsbD i)
        ∧ s.Traced t [.regRead x (s.reg x), .regWrite y v])

/-- The seven loads of the displacement mode: the address, the value extended, nothing else changed (R180, R181, R185,
R186, R187, R188, R189, R190, R191). The spec marks R180, R181, R185, R186, R187, R188, R189, R190, R191 as resting on
its own decisions D1, D3, D4, D24, D27. -/
def Obligations.DisplacementLoadsComplete : Prop :=
  (∀ d y z : Byte, Encodes (0x80#8 ++ d ++ y ++ z) (.ldu1D (signExt d) y z))
    ∧ (∀ d y z : Byte, Encodes (0x81#8 ++ d ++ y ++ z) (.ldu2D (signExt d) y z))
    ∧ (∀ d y z : Byte, Encodes (0x82#8 ++ d ++ y ++ z) (.ldu4D (signExt d) y z))
    ∧ (∀ d y z : Byte, Encodes (0x83#8 ++ d ++ y ++ z) (.ld8D (signExt d) y z))
    ∧ (∀ d y z : Byte, Encodes (0x84#8 ++ d ++ y ++ z) (.lds1D (signExt d) y z))
    ∧ (∀ d y z : Byte, Encodes (0x85#8 ++ d ++ y ++ z) (.lds2D (signExt d) y z))
    ∧ (∀ d y z : Byte, Encodes (0x86#8 ++ d ++ y ++ z) (.lds4D (signExt d) y z))
    ∧ (∀ (d : Word) (y z : RegIdx) (s : State),
      Loads (.ldu1D d y z) s .b1 (eaD s d y) (loadedUnsigned s .b1 (eaD s d y)) z (readsD s y)
      ∧ Loads (.ldu2D d y z) s .b2 (eaD s d y) (loadedUnsigned s .b2 (eaD s d y)) z (readsD s y)
      ∧ Loads (.ldu4D d y z) s .b4 (eaD s d y) (loadedUnsigned s .b4 (eaD s d y)) z (readsD s y)
      ∧ Loads (.ld8D d y z) s .b8 (eaD s d y) (loadedUnsigned s .b8 (eaD s d y)) z (readsD s y)
      ∧ Loads (.lds1D d y z) s .b1 (eaD s d y) (loadedSigned s .b1 (eaD s d y)) z (readsD s y)
      ∧ Loads (.lds2D d y z) s .b2 (eaD s d y) (loadedSigned s .b2 (eaD s d y)) z (readsD s y)
      ∧ Loads (.lds4D d y z) s .b4 (eaD s d y) (loadedSigned s .b4 (eaD s d y)) z (readsD s y))

/-- The twenty-eight loads of the scaled modes: the address, the value extended, nothing else changed (R181, R182,
R90, R91). The spec marks R181, R182, R90, R91 as resting on its own decisions D1, D2, D3, D19, D24, D27. The encoding
clauses are those of the kinds' own rules among R196 to R235 of 44_memory_access.md section 2. -/
def Obligations.ScaledLoadsComplete : Prop :=
  (∀ x y z : Byte, Encodes (0x8B#8 ++ x ++ y ++ z) (.ldu1S1 x y z))
    ∧ (∀ x y z : Byte, Encodes (0x8C#8 ++ x ++ y ++ z) (.ldu2S1 x y z))
    ∧ (∀ x y z : Byte, Encodes (0x8D#8 ++ x ++ y ++ z) (.ldu4S1 x y z))
    ∧ (∀ x y z : Byte, Encodes (0x8E#8 ++ x ++ y ++ z) (.ld8S1 x y z))
    ∧ (∀ x y z : Byte, Encodes (0x8F#8 ++ x ++ y ++ z) (.lds1S1 x y z))
    ∧ (∀ x y z : Byte, Encodes (0x90#8 ++ x ++ y ++ z) (.lds2S1 x y z))
    ∧ (∀ x y z : Byte, Encodes (0x91#8 ++ x ++ y ++ z) (.lds4S1 x y z))
    ∧ (∀ x y z : Byte, Encodes (0x96#8 ++ x ++ y ++ z) (.ldu1S2 x y z))
    ∧ (∀ x y z : Byte, Encodes (0x97#8 ++ x ++ y ++ z) (.ldu2S2 x y z))
    ∧ (∀ x y z : Byte, Encodes (0x98#8 ++ x ++ y ++ z) (.ldu4S2 x y z))
    ∧ (∀ x y z : Byte, Encodes (0x99#8 ++ x ++ y ++ z) (.ld8S2 x y z))
    ∧ (∀ x y z : Byte, Encodes (0x9A#8 ++ x ++ y ++ z) (.lds1S2 x y z))
    ∧ (∀ x y z : Byte, Encodes (0x9B#8 ++ x ++ y ++ z) (.lds2S2 x y z))
    ∧ (∀ x y z : Byte, Encodes (0x9C#8 ++ x ++ y ++ z) (.lds4S2 x y z))
    ∧ (∀ x y z : Byte, Encodes (0xA1#8 ++ x ++ y ++ z) (.ldu1S4 x y z))
    ∧ (∀ x y z : Byte, Encodes (0xA2#8 ++ x ++ y ++ z) (.ldu2S4 x y z))
    ∧ (∀ x y z : Byte, Encodes (0xA3#8 ++ x ++ y ++ z) (.ldu4S4 x y z))
    ∧ (∀ x y z : Byte, Encodes (0xA4#8 ++ x ++ y ++ z) (.ld8S4 x y z))
    ∧ (∀ x y z : Byte, Encodes (0xA5#8 ++ x ++ y ++ z) (.lds1S4 x y z))
    ∧ (∀ x y z : Byte, Encodes (0xA6#8 ++ x ++ y ++ z) (.lds2S4 x y z))
    ∧ (∀ x y z : Byte, Encodes (0xA7#8 ++ x ++ y ++ z) (.lds4S4 x y z))
    ∧ (∀ x y z : Byte, Encodes (0xAC#8 ++ x ++ y ++ z) (.ldu1S8 x y z))
    ∧ (∀ x y z : Byte, Encodes (0xAD#8 ++ x ++ y ++ z) (.ldu2S8 x y z))
    ∧ (∀ x y z : Byte, Encodes (0xAE#8 ++ x ++ y ++ z) (.ldu4S8 x y z))
    ∧ (∀ x y z : Byte, Encodes (0xAF#8 ++ x ++ y ++ z) (.ld8S8 x y z))
    ∧ (∀ x y z : Byte, Encodes (0xB0#8 ++ x ++ y ++ z) (.lds1S8 x y z))
    ∧ (∀ x y z : Byte, Encodes (0xB1#8 ++ x ++ y ++ z) (.lds2S8 x y z))
    ∧ (∀ x y z : Byte, Encodes (0xB2#8 ++ x ++ y ++ z) (.lds4S8 x y z))
    ∧ (∀ (x y z : RegIdx) (s : State),
      Loads (.ldu1S1 x y z) s .b1 (eaS s x y 1) (loadedUnsigned s .b1 (eaS s x y 1)) z (readsS s x y)
      ∧ Loads (.ldu2S1 x y z) s .b2 (eaS s x y 1) (loadedUnsigned s .b2 (eaS s x y 1)) z (readsS s x y)
      ∧ Loads (.ldu4S1 x y z) s .b4 (eaS s x y 1) (loadedUnsigned s .b4 (eaS s x y 1)) z (readsS s x y)
      ∧ Loads (.ld8S1 x y z) s .b8 (eaS s x y 1) (loadedUnsigned s .b8 (eaS s x y 1)) z (readsS s x y)
      ∧ Loads (.lds1S1 x y z) s .b1 (eaS s x y 1) (loadedSigned s .b1 (eaS s x y 1)) z (readsS s x y)
      ∧ Loads (.lds2S1 x y z) s .b2 (eaS s x y 1) (loadedSigned s .b2 (eaS s x y 1)) z (readsS s x y)
      ∧ Loads (.lds4S1 x y z) s .b4 (eaS s x y 1) (loadedSigned s .b4 (eaS s x y 1)) z (readsS s x y)
      ∧ Loads (.ldu1S2 x y z) s .b1 (eaS s x y 2) (loadedUnsigned s .b1 (eaS s x y 2)) z (readsS s x y)
      ∧ Loads (.ldu2S2 x y z) s .b2 (eaS s x y 2) (loadedUnsigned s .b2 (eaS s x y 2)) z (readsS s x y)
      ∧ Loads (.ldu4S2 x y z) s .b4 (eaS s x y 2) (loadedUnsigned s .b4 (eaS s x y 2)) z (readsS s x y)
      ∧ Loads (.ld8S2 x y z) s .b8 (eaS s x y 2) (loadedUnsigned s .b8 (eaS s x y 2)) z (readsS s x y)
      ∧ Loads (.lds1S2 x y z) s .b1 (eaS s x y 2) (loadedSigned s .b1 (eaS s x y 2)) z (readsS s x y)
      ∧ Loads (.lds2S2 x y z) s .b2 (eaS s x y 2) (loadedSigned s .b2 (eaS s x y 2)) z (readsS s x y)
      ∧ Loads (.lds4S2 x y z) s .b4 (eaS s x y 2) (loadedSigned s .b4 (eaS s x y 2)) z (readsS s x y)
      ∧ Loads (.ldu1S4 x y z) s .b1 (eaS s x y 4) (loadedUnsigned s .b1 (eaS s x y 4)) z (readsS s x y)
      ∧ Loads (.ldu2S4 x y z) s .b2 (eaS s x y 4) (loadedUnsigned s .b2 (eaS s x y 4)) z (readsS s x y)
      ∧ Loads (.ldu4S4 x y z) s .b4 (eaS s x y 4) (loadedUnsigned s .b4 (eaS s x y 4)) z (readsS s x y)
      ∧ Loads (.ld8S4 x y z) s .b8 (eaS s x y 4) (loadedUnsigned s .b8 (eaS s x y 4)) z (readsS s x y)
      ∧ Loads (.lds1S4 x y z) s .b1 (eaS s x y 4) (loadedSigned s .b1 (eaS s x y 4)) z (readsS s x y)
      ∧ Loads (.lds2S4 x y z) s .b2 (eaS s x y 4) (loadedSigned s .b2 (eaS s x y 4)) z (readsS s x y)
      ∧ Loads (.lds4S4 x y z) s .b4 (eaS s x y 4) (loadedSigned s .b4 (eaS s x y 4)) z (readsS s x y)
      ∧ Loads (.ldu1S8 x y z) s .b1 (eaS s x y 8) (loadedUnsigned s .b1 (eaS s x y 8)) z (readsS s x y)
      ∧ Loads (.ldu2S8 x y z) s .b2 (eaS s x y 8) (loadedUnsigned s .b2 (eaS s x y 8)) z (readsS s x y)
      ∧ Loads (.ldu4S8 x y z) s .b4 (eaS s x y 8) (loadedUnsigned s .b4 (eaS s x y 8)) z (readsS s x y)
      ∧ Loads (.ld8S8 x y z) s .b8 (eaS s x y 8) (loadedUnsigned s .b8 (eaS s x y 8)) z (readsS s x y)
      ∧ Loads (.lds1S8 x y z) s .b1 (eaS s x y 8) (loadedSigned s .b1 (eaS s x y 8)) z (readsS s x y)
      ∧ Loads (.lds2S8 x y z) s .b2 (eaS s x y 8) (loadedSigned s .b2 (eaS s x y 8)) z (readsS s x y)
      ∧ Loads (.lds4S8 x y z) s .b4 (eaS s x y 8) (loadedSigned s .b4 (eaS s x y 8)) z (readsS s x y))

/-- The four stores of the displacement mode: the bytes stored and where, every other byte as before (R180, R183,
R192, R193, R194, R195). The spec marks R180, R192, R193, R194, R195 as resting on its own decisions D1, D3, D4, D24.
-/
def Obligations.DisplacementStoresComplete : Prop :=
  (∀ d y z : Byte, Encodes (0x87#8 ++ d ++ y ++ z) (.st1D (signExt d) y z))
    ∧ (∀ d y z : Byte, Encodes (0x88#8 ++ d ++ y ++ z) (.st2D (signExt d) y z))
    ∧ (∀ d y z : Byte, Encodes (0x89#8 ++ d ++ y ++ z) (.st4D (signExt d) y z))
    ∧ (∀ d y z : Byte, Encodes (0x8A#8 ++ d ++ y ++ z) (.st8D (signExt d) y z))
    ∧ (∀ (d : Word) (y z : RegIdx) (s : State),
      Stores (.st1D d y z) s .b1 (eaD s d y) z (readsD s y)
      ∧ Stores (.st2D d y z) s .b2 (eaD s d y) z (readsD s y)
      ∧ Stores (.st4D d y z) s .b4 (eaD s d y) z (readsD s y)
      ∧ Stores (.st8D d y z) s .b8 (eaD s d y) z (readsD s y))

/-- The sixteen stores of the scaled modes: the bytes stored and where, every other byte as before (R183, R182, R90,
R91). The spec marks R182, R90, R91 as resting on its own decisions D1, D2, D3, D19, D24, D27. The encoding clauses
are those of the kinds' own rules among R203 to R239 of 44_memory_access.md section 2. -/
def Obligations.ScaledStoresComplete : Prop :=
  (∀ x y z : Byte, Encodes (0x92#8 ++ x ++ y ++ z) (.st1S1 x y z))
    ∧ (∀ x y z : Byte, Encodes (0x93#8 ++ x ++ y ++ z) (.st2S1 x y z))
    ∧ (∀ x y z : Byte, Encodes (0x94#8 ++ x ++ y ++ z) (.st4S1 x y z))
    ∧ (∀ x y z : Byte, Encodes (0x95#8 ++ x ++ y ++ z) (.st8S1 x y z))
    ∧ (∀ x y z : Byte, Encodes (0x9D#8 ++ x ++ y ++ z) (.st1S2 x y z))
    ∧ (∀ x y z : Byte, Encodes (0x9E#8 ++ x ++ y ++ z) (.st2S2 x y z))
    ∧ (∀ x y z : Byte, Encodes (0x9F#8 ++ x ++ y ++ z) (.st4S2 x y z))
    ∧ (∀ x y z : Byte, Encodes (0xA0#8 ++ x ++ y ++ z) (.st8S2 x y z))
    ∧ (∀ x y z : Byte, Encodes (0xA8#8 ++ x ++ y ++ z) (.st1S4 x y z))
    ∧ (∀ x y z : Byte, Encodes (0xA9#8 ++ x ++ y ++ z) (.st2S4 x y z))
    ∧ (∀ x y z : Byte, Encodes (0xAA#8 ++ x ++ y ++ z) (.st4S4 x y z))
    ∧ (∀ x y z : Byte, Encodes (0xAB#8 ++ x ++ y ++ z) (.st8S4 x y z))
    ∧ (∀ x y z : Byte, Encodes (0xB3#8 ++ x ++ y ++ z) (.st1S8 x y z))
    ∧ (∀ x y z : Byte, Encodes (0xB4#8 ++ x ++ y ++ z) (.st2S8 x y z))
    ∧ (∀ x y z : Byte, Encodes (0xB5#8 ++ x ++ y ++ z) (.st4S8 x y z))
    ∧ (∀ x y z : Byte, Encodes (0xB6#8 ++ x ++ y ++ z) (.st8S8 x y z))
    ∧ (∀ (x y z : RegIdx) (s : State),
      Stores (.st1S1 x y z) s .b1 (eaS s x y 1) z (readsS s x y)
      ∧ Stores (.st2S1 x y z) s .b2 (eaS s x y 1) z (readsS s x y)
      ∧ Stores (.st4S1 x y z) s .b4 (eaS s x y 1) z (readsS s x y)
      ∧ Stores (.st8S1 x y z) s .b8 (eaS s x y 1) z (readsS s x y)
      ∧ Stores (.st1S2 x y z) s .b1 (eaS s x y 2) z (readsS s x y)
      ∧ Stores (.st2S2 x y z) s .b2 (eaS s x y 2) z (readsS s x y)
      ∧ Stores (.st4S2 x y z) s .b4 (eaS s x y 2) z (readsS s x y)
      ∧ Stores (.st8S2 x y z) s .b8 (eaS s x y 2) z (readsS s x y)
      ∧ Stores (.st1S4 x y z) s .b1 (eaS s x y 4) z (readsS s x y)
      ∧ Stores (.st2S4 x y z) s .b2 (eaS s x y 4) z (readsS s x y)
      ∧ Stores (.st4S4 x y z) s .b4 (eaS s x y 4) z (readsS s x y)
      ∧ Stores (.st8S4 x y z) s .b8 (eaS s x y 4) z (readsS s x y)
      ∧ Stores (.st1S8 x y z) s .b1 (eaS s x y 8) z (readsS s x y)
      ∧ Stores (.st2S8 x y z) s .b2 (eaS s x y 8) z (readsS s x y)
      ∧ Stores (.st4S8 x y z) s .b4 (eaS s x y 8) z (readsS s x y)
      ∧ Stores (.st8S8 x y z) s .b8 (eaS s x y 8) z (readsS s x y))

/-- The scaled index: index * s under STRIDE, a shift by 8*s modulo 64 under LITERAL_SHIFT (R182). The spec marks R182
as resting on its own decisions D3, D19, D24. -/
def Obligations.ScaledIndexByScaleRule : Prop :=
  (∀ (i : Word) (k : Nat), k ≤ 3 →
      (scaledIndex .stride i (2 ^ k)).toNat = i.toNat * 2 ^ k % 2 ^ 64 ∧ scaledIndex .stride i (2 ^ k) = i <<< k)
    ∧ (∀ i : Word, (scaledIndex .literalShift i 1).toNat = i.toNat * 2 ^ 8 % 2 ^ 64
        ∧ (scaledIndex .literalShift i 2).toNat = i.toNat * 2 ^ 16 % 2 ^ 64
        ∧ (scaledIndex .literalShift i 4).toNat = i.toNat * 2 ^ 32 % 2 ^ 64
        ∧ scaledIndex .literalShift i 8 = i)
    ∧ (∀ (s : State) (x y : RegIdx) (k : Nat),
        (eaS s x y k).toNat = ((s.reg x).toNat + (scaledIndex s.cfg.scaleRule (s.reg y) k).toNat) % 2 ^ 64)

/-- Every load and store wider than a byte faults MemoryMisaligned at an address that is no multiple of its width
(R53, R184, R305). The spec marks R53, R305 as resting on its own decisions D13, D25, D32. It marks R184 as derived.
-/
def Obligations.MisalignedAccessesTrap : Prop :=
  (∀ (d : Word) (y z : RegIdx) (s : State),
      ((eaD s d y).toNat % widthBytes .b2 ≠ 0 →
        TrapsWith (.ldu2D d y z) s (.memoryMisaligned (eaD s d y) .b2))
      ∧ ((eaD s d y).toNat % widthBytes .b4 ≠ 0 →
        TrapsWith (.ldu4D d y z) s (.memoryMisaligned (eaD s d y) .b4))
      ∧ ((eaD s d y).toNat % widthBytes .b8 ≠ 0 →
        TrapsWith (.ld8D d y z) s (.memoryMisaligned (eaD s d y) .b8))
      ∧ ((eaD s d y).toNat % widthBytes .b2 ≠ 0 →
        TrapsWith (.lds2D d y z) s (.memoryMisaligned (eaD s d y) .b2))
      ∧ ((eaD s d y).toNat % widthBytes .b4 ≠ 0 →
        TrapsWith (.lds4D d y z) s (.memoryMisaligned (eaD s d y) .b4))
      ∧ ((eaD s d y).toNat % widthBytes .b2 ≠ 0 →
        TrapsWith (.st2D d y z) s (.memoryMisaligned (eaD s d y) .b2))
      ∧ ((eaD s d y).toNat % widthBytes .b4 ≠ 0 →
        TrapsWith (.st4D d y z) s (.memoryMisaligned (eaD s d y) .b4))
      ∧ ((eaD s d y).toNat % widthBytes .b8 ≠ 0 →
        TrapsWith (.st8D d y z) s (.memoryMisaligned (eaD s d y) .b8)))
    ∧ (∀ (x y z : RegIdx) (s : State),
      ((eaS s x y 1).toNat % widthBytes .b2 ≠ 0 →
        TrapsWith (.ldu2S1 x y z) s (.memoryMisaligned (eaS s x y 1) .b2))
      ∧ ((eaS s x y 1).toNat % widthBytes .b4 ≠ 0 →
        TrapsWith (.ldu4S1 x y z) s (.memoryMisaligned (eaS s x y 1) .b4))
      ∧ ((eaS s x y 1).toNat % widthBytes .b8 ≠ 0 →
        TrapsWith (.ld8S1 x y z) s (.memoryMisaligned (eaS s x y 1) .b8))
      ∧ ((eaS s x y 1).toNat % widthBytes .b2 ≠ 0 →
        TrapsWith (.lds2S1 x y z) s (.memoryMisaligned (eaS s x y 1) .b2))
      ∧ ((eaS s x y 1).toNat % widthBytes .b4 ≠ 0 →
        TrapsWith (.lds4S1 x y z) s (.memoryMisaligned (eaS s x y 1) .b4))
      ∧ ((eaS s x y 2).toNat % widthBytes .b2 ≠ 0 →
        TrapsWith (.ldu2S2 x y z) s (.memoryMisaligned (eaS s x y 2) .b2))
      ∧ ((eaS s x y 2).toNat % widthBytes .b4 ≠ 0 →
        TrapsWith (.ldu4S2 x y z) s (.memoryMisaligned (eaS s x y 2) .b4))
      ∧ ((eaS s x y 2).toNat % widthBytes .b8 ≠ 0 →
        TrapsWith (.ld8S2 x y z) s (.memoryMisaligned (eaS s x y 2) .b8))
      ∧ ((eaS s x y 2).toNat % widthBytes .b2 ≠ 0 →
        TrapsWith (.lds2S2 x y z) s (.memoryMisaligned (eaS s x y 2) .b2))
      ∧ ((eaS s x y 2).toNat % widthBytes .b4 ≠ 0 →
        TrapsWith (.lds4S2 x y z) s (.memoryMisaligned (eaS s x y 2) .b4))
      ∧ ((eaS s x y 4).toNat % widthBytes .b2 ≠ 0 →
        TrapsWith (.ldu2S4 x y z) s (.memoryMisaligned (eaS s x y 4) .b2))
      ∧ ((eaS s x y 4).toNat % widthBytes .b4 ≠ 0 →
        TrapsWith (.ldu4S4 x y z) s (.memoryMisaligned (eaS s x y 4) .b4))
      ∧ ((eaS s x y 4).toNat % widthBytes .b8 ≠ 0 →
        TrapsWith (.ld8S4 x y z) s (.memoryMisaligned (eaS s x y 4) .b8))
      ∧ ((eaS s x y 4).toNat % widthBytes .b2 ≠ 0 →
        TrapsWith (.lds2S4 x y z) s (.memoryMisaligned (eaS s x y 4) .b2))
      ∧ ((eaS s x y 4).toNat % widthBytes .b4 ≠ 0 →
        TrapsWith (.lds4S4 x y z) s (.memoryMisaligned (eaS s x y 4) .b4))
      ∧ ((eaS s x y 8).toNat % widthBytes .b2 ≠ 0 →
        TrapsWith (.ldu2S8 x y z) s (.memoryMisaligned (eaS s x y 8) .b2))
      ∧ ((eaS s x y 8).toNat % widthBytes .b4 ≠ 0 →
        TrapsWith (.ldu4S8 x y z) s (.memoryMisaligned (eaS s x y 8) .b4))
      ∧ ((eaS s x y 8).toNat % widthBytes .b8 ≠ 0 →
        TrapsWith (.ld8S8 x y z) s (.memoryMisaligned (eaS s x y 8) .b8))
      ∧ ((eaS s x y 8).toNat % widthBytes .b2 ≠ 0 →
        TrapsWith (.lds2S8 x y z) s (.memoryMisaligned (eaS s x y 8) .b2))
      ∧ ((eaS s x y 8).toNat % widthBytes .b4 ≠ 0 →
        TrapsWith (.lds4S8 x y z) s (.memoryMisaligned (eaS s x y 8) .b4))
      ∧ ((eaS s x y 1).toNat % widthBytes .b2 ≠ 0 →
        TrapsWith (.st2S1 x y z) s (.memoryMisaligned (eaS s x y 1) .b2))
      ∧ ((eaS s x y 1).toNat % widthBytes .b4 ≠ 0 →
        TrapsWith (.st4S1 x y z) s (.memoryMisaligned (eaS s x y 1) .b4))
      ∧ ((eaS s x y 1).toNat % widthBytes .b8 ≠ 0 →
        TrapsWith (.st8S1 x y z) s (.memoryMisaligned (eaS s x y 1) .b8))
      ∧ ((eaS s x y 2).toNat % widthBytes .b2 ≠ 0 →
        TrapsWith (.st2S2 x y z) s (.memoryMisaligned (eaS s x y 2) .b2))
      ∧ ((eaS s x y 2).toNat % widthBytes .b4 ≠ 0 →
        TrapsWith (.st4S2 x y z) s (.memoryMisaligned (eaS s x y 2) .b4))
      ∧ ((eaS s x y 2).toNat % widthBytes .b8 ≠ 0 →
        TrapsWith (.st8S2 x y z) s (.memoryMisaligned (eaS s x y 2) .b8))
      ∧ ((eaS s x y 4).toNat % widthBytes .b2 ≠ 0 →
        TrapsWith (.st2S4 x y z) s (.memoryMisaligned (eaS s x y 4) .b2))
      ∧ ((eaS s x y 4).toNat % widthBytes .b4 ≠ 0 →
        TrapsWith (.st4S4 x y z) s (.memoryMisaligned (eaS s x y 4) .b4))
      ∧ ((eaS s x y 4).toNat % widthBytes .b8 ≠ 0 →
        TrapsWith (.st8S4 x y z) s (.memoryMisaligned (eaS s x y 4) .b8))
      ∧ ((eaS s x y 8).toNat % widthBytes .b2 ≠ 0 →
        TrapsWith (.st2S8 x y z) s (.memoryMisaligned (eaS s x y 8) .b2))
      ∧ ((eaS s x y 8).toNat % widthBytes .b4 ≠ 0 →
        TrapsWith (.st4S8 x y z) s (.memoryMisaligned (eaS s x y 8) .b4))
      ∧ ((eaS s x y 8).toNat % widthBytes .b8 ≠ 0 →
        TrapsWith (.st8S8 x y z) s (.memoryMisaligned (eaS s x y 8) .b8)))

/-- Every aligned store that needs a new page when PAGE_CAPACITY is full faults PageAllocFailure (R58, R62, R184,
R305). The spec marks R62, R305 as resting on its own decisions D13, D25, D28. It marks R184 as derived. -/
def Obligations.FullPageCapacityTrapsStores : Prop :=
  (∀ (d : Word) (y z : RegIdx) (s : State),
      ((eaD s d y).toNat % widthBytes .b1 = 0 → ¬ s.pageReady (eaD s d y) →
        TrapsWith (.st1D d y z) s (.pageAllocFailure (eaD s d y) .b1))
      ∧ ((eaD s d y).toNat % widthBytes .b2 = 0 → ¬ s.pageReady (eaD s d y) →
        TrapsWith (.st2D d y z) s (.pageAllocFailure (eaD s d y) .b2))
      ∧ ((eaD s d y).toNat % widthBytes .b4 = 0 → ¬ s.pageReady (eaD s d y) →
        TrapsWith (.st4D d y z) s (.pageAllocFailure (eaD s d y) .b4))
      ∧ ((eaD s d y).toNat % widthBytes .b8 = 0 → ¬ s.pageReady (eaD s d y) →
        TrapsWith (.st8D d y z) s (.pageAllocFailure (eaD s d y) .b8)))
    ∧ (∀ (x y z : RegIdx) (s : State),
      ((eaS s x y 1).toNat % widthBytes .b1 = 0 → ¬ s.pageReady (eaS s x y 1) →
        TrapsWith (.st1S1 x y z) s (.pageAllocFailure (eaS s x y 1) .b1))
      ∧ ((eaS s x y 1).toNat % widthBytes .b2 = 0 → ¬ s.pageReady (eaS s x y 1) →
        TrapsWith (.st2S1 x y z) s (.pageAllocFailure (eaS s x y 1) .b2))
      ∧ ((eaS s x y 1).toNat % widthBytes .b4 = 0 → ¬ s.pageReady (eaS s x y 1) →
        TrapsWith (.st4S1 x y z) s (.pageAllocFailure (eaS s x y 1) .b4))
      ∧ ((eaS s x y 1).toNat % widthBytes .b8 = 0 → ¬ s.pageReady (eaS s x y 1) →
        TrapsWith (.st8S1 x y z) s (.pageAllocFailure (eaS s x y 1) .b8))
      ∧ ((eaS s x y 2).toNat % widthBytes .b1 = 0 → ¬ s.pageReady (eaS s x y 2) →
        TrapsWith (.st1S2 x y z) s (.pageAllocFailure (eaS s x y 2) .b1))
      ∧ ((eaS s x y 2).toNat % widthBytes .b2 = 0 → ¬ s.pageReady (eaS s x y 2) →
        TrapsWith (.st2S2 x y z) s (.pageAllocFailure (eaS s x y 2) .b2))
      ∧ ((eaS s x y 2).toNat % widthBytes .b4 = 0 → ¬ s.pageReady (eaS s x y 2) →
        TrapsWith (.st4S2 x y z) s (.pageAllocFailure (eaS s x y 2) .b4))
      ∧ ((eaS s x y 2).toNat % widthBytes .b8 = 0 → ¬ s.pageReady (eaS s x y 2) →
        TrapsWith (.st8S2 x y z) s (.pageAllocFailure (eaS s x y 2) .b8))
      ∧ ((eaS s x y 4).toNat % widthBytes .b1 = 0 → ¬ s.pageReady (eaS s x y 4) →
        TrapsWith (.st1S4 x y z) s (.pageAllocFailure (eaS s x y 4) .b1))
      ∧ ((eaS s x y 4).toNat % widthBytes .b2 = 0 → ¬ s.pageReady (eaS s x y 4) →
        TrapsWith (.st2S4 x y z) s (.pageAllocFailure (eaS s x y 4) .b2))
      ∧ ((eaS s x y 4).toNat % widthBytes .b4 = 0 → ¬ s.pageReady (eaS s x y 4) →
        TrapsWith (.st4S4 x y z) s (.pageAllocFailure (eaS s x y 4) .b4))
      ∧ ((eaS s x y 4).toNat % widthBytes .b8 = 0 → ¬ s.pageReady (eaS s x y 4) →
        TrapsWith (.st8S4 x y z) s (.pageAllocFailure (eaS s x y 4) .b8))
      ∧ ((eaS s x y 8).toNat % widthBytes .b1 = 0 → ¬ s.pageReady (eaS s x y 8) →
        TrapsWith (.st1S8 x y z) s (.pageAllocFailure (eaS s x y 8) .b1))
      ∧ ((eaS s x y 8).toNat % widthBytes .b2 = 0 → ¬ s.pageReady (eaS s x y 8) →
        TrapsWith (.st2S8 x y z) s (.pageAllocFailure (eaS s x y 8) .b2))
      ∧ ((eaS s x y 8).toNat % widthBytes .b4 = 0 → ¬ s.pageReady (eaS s x y 8) →
        TrapsWith (.st4S8 x y z) s (.pageAllocFailure (eaS s x y 8) .b4))
      ∧ ((eaS s x y 8).toNat % widthBytes .b8 = 0 → ¬ s.pageReady (eaS s x y 8) →
        TrapsWith (.st8S8 x y z) s (.pageAllocFailure (eaS s x y 8) .b8)))

/-- JMP_ABS writes the link first, then jumps to the target register, which sees the link where both are one register
(R250). The spec marks R250 as resting on its own decisions D3, D21, D24. -/
def Obligations.AbsoluteJumpLinksThenJumps : Prop :=
  (∀ x y z : Byte, Encodes (0x40#8 ++ x ++ y ++ z) (.jmpAbs x y))
    ∧ (∀ (x y : RegIdx) (s : State), ∃ t, exec (.jmpAbs x y) s = .next t
        ∧ s.WritesReg t y (BitVec.ofNat 64 (s.pc.toNat + 4))
        ∧ t.pc = (if x = y ∧ y ≠ 0 then BitVec.ofNat 64 (s.pc.toNat + 4) else s.reg x)
        ∧ t.jumped = true ∧ t.flags = s.flags ∧ s.SameStatus t ∧ s.SameMemory t ∧ t.dev = s.dev
        ∧ s.Traced t [.regWrite y (BitVec.ofNat 64 (s.pc.toNat + 4)),
            .regRead x (if x = y ∧ y ≠ 0 then BitVec.ofNat 64 (s.pc.toNat + 4) else s.reg x)])

/-- JMP sets pc to pc + 4 * sXYZ modulo 2^64 and marks jumped, nothing else; aligned stays aligned (R251, R252). The
spec marks R251 as resting on its own decisions D24. -/
def Obligations.RelativeJumpMovesPc : Prop :=
  (∀ v : BitVec 24, Encodes (0x41#8 ++ v) (.jmp (signExt v)))
    ∧ (∀ (v : Word) (s : State), ∃ t, exec (.jmp v) s = .next t ∧ JumpEffect true v s t)
    ∧ (∀ v : BitVec 24, -(2 ^ 23 : Int) ≤ (signExt v).toInt ∧ (signExt v).toInt ≤ (2 ^ 23 : Int) - 1)
    ∧ (∀ (v : Word) (s t : State), exec (.jmp v) s = .next t → s.pc.toNat % 4 = 0 → t.pc.toNat % 4 = 0)

/-- The ten conditional jumps: taken exactly on their condition, and nothing else changed either way (R253, R254,
R255, R256, R257, R258, R259, R260, R261, R262). -/
def Obligations.ConditionalJumpsFollowFlags : Prop :=
  (∀ v : BitVec 24, Encodes (0x42#8 ++ v) (.ja (signExt v)))
    ∧ (∀ v : BitVec 24, Encodes (0x43#8 ++ v) (.jbe (signExt v)))
    ∧ (∀ v : BitVec 24, Encodes (0x44#8 ++ v) (.jae (signExt v)))
    ∧ (∀ v : BitVec 24, Encodes (0x45#8 ++ v) (.jb (signExt v)))
    ∧ (∀ v : BitVec 24, Encodes (0x46#8 ++ v) (.jg (signExt v)))
    ∧ (∀ v : BitVec 24, Encodes (0x47#8 ++ v) (.jle (signExt v)))
    ∧ (∀ v : BitVec 24, Encodes (0x48#8 ++ v) (.jge (signExt v)))
    ∧ (∀ v : BitVec 24, Encodes (0x49#8 ++ v) (.jl (signExt v)))
    ∧ (∀ v : BitVec 24, Encodes (0x4A#8 ++ v) (.jz (signExt v)))
    ∧ (∀ v : BitVec 24, Encodes (0x4B#8 ++ v) (.jnz (signExt v)))
    ∧ (∀ (v : Word) (s : State),
      (∃ t, exec (.ja v) s = .next t ∧ JumpEffect (!s.flags.cf && !s.flags.zf) v s t)
      ∧ (∃ t, exec (.jbe v) s = .next t ∧ JumpEffect (s.flags.cf || s.flags.zf) v s t)
      ∧ (∃ t, exec (.jae v) s = .next t ∧ JumpEffect (!s.flags.cf) v s t)
      ∧ (∃ t, exec (.jb v) s = .next t ∧ JumpEffect (s.flags.cf) v s t)
      ∧ (∃ t, exec (.jg v) s = .next t ∧ JumpEffect (!s.flags.zf && (s.flags.sf == s.flags.of)) v s t)
      ∧ (∃ t, exec (.jle v) s = .next t ∧ JumpEffect (s.flags.zf || (s.flags.sf != s.flags.of)) v s t)
      ∧ (∃ t, exec (.jge v) s = .next t ∧ JumpEffect (s.flags.sf == s.flags.of) v s t)
      ∧ (∃ t, exec (.jl v) s = .next t ∧ JumpEffect (s.flags.sf != s.flags.of) v s t)
      ∧ (∃ t, exec (.jz v) s = .next t ∧ JumpEffect (s.flags.zf) v s t)
      ∧ (∃ t, exec (.jnz v) s = .next t ∧ JumpEffect (!s.flags.zf) v s t))

/-- For every flag state exactly one jump of each pair is taken (R264). The spec marks R264 as derived. -/
def Obligations.ComplementaryJumpPairs : Prop :=
  ∀ (v : Word) (s : State), s.jumped = false →
    (Taken (.ja v) s ↔ ¬ Taken (.jbe v) s) ∧ (Taken (.jae v) s ↔ ¬ Taken (.jb v) s)
    ∧ (Taken (.jg v) s ↔ ¬ Taken (.jle v) s) ∧ (Taken (.jge v) s ↔ ¬ Taken (.jl v) s)
    ∧ (Taken (.jz v) s ↔ ¬ Taken (.jnz v) s)

/-- After cmp %a, %b the unsigned jumps compare x[b] with x[a] unsigned, the signed jumps signed (R152, R254, R265).
The spec marks R152 as derived. -/
def Obligations.CompareThenJumpOrdersOperands : Prop :=
  ∀ (a b z : RegIdx) (v : Word) (s t : State), s.jumped = false → exec (.subRR a b z) s = .next t →
    (Taken (.ja v) t ↔ (s.reg a).toNat < (s.reg b).toNat) ∧ (Taken (.jbe v) t ↔ (s.reg b).toNat ≤ (s.reg a).toNat)
    ∧ (Taken (.jae v) t ↔ (s.reg a).toNat ≤ (s.reg b).toNat) ∧ (Taken (.jb v) t ↔ (s.reg b).toNat < (s.reg a).toNat)
    ∧ (Taken (.jg v) t ↔ (s.reg a).toInt < (s.reg b).toInt) ∧ (Taken (.jle v) t ↔ (s.reg b).toInt ≤ (s.reg a).toInt)
    ∧ (Taken (.jge v) t ↔ (s.reg a).toInt ≤ (s.reg b).toInt) ∧ (Taken (.jl v) t ↔ (s.reg b).toInt < (s.reg a).toInt)
    ∧ (Taken (.jz v) t ↔ s.reg a = s.reg b) ∧ (Taken (.jnz v) t ↔ s.reg a ≠ s.reg b)

/-- HALT_R and HALT_I: the exit code, no error, HALTED, and nothing else (R270, R271). The spec marks R270, R271 as
resting on its own decisions D3, D4, D17, D23. -/
def Obligations.HaltWritesExitCode : Prop :=
  (∀ x y z : Byte, Encodes (0x01#8 ++ x ++ y ++ z) (.haltR x))
    ∧ (∀ u y z : Byte, Encodes (0x02#8 ++ u ++ y ++ z) (.haltI (zeroExt u)))
    ∧ (∀ (x : RegIdx) (s : State), ∃ t, exec (.haltR x) s = .next t ∧ HaltEffect (s.reg x) s t
        ∧ s.Traced t [.regRead x (s.reg x)])
    ∧ (∀ (u : Word) (s : State), ∃ t, exec (.haltI u) s = .next t ∧ HaltEffect u s t ∧ s.Traced t [])

/-- NOP with any operand bits only advances pc by 4 (R272). The spec marks R272 as resting on its own decisions D31.
-/
def Obligations.NopChangesNothing : Prop :=
  (∀ x y z : Byte, Encodes (0x03#8 ++ x ++ y ++ z) .nop)
    ∧ (∀ s : State, exec .nop s = .next s)
    ∧ (∀ s : State, Fetches s .nop → s.status = .running → s.jumped = false →
        ∃ t, step s = .next t ∧ t.pc = BitVec.ofNat 64 (s.pc.toNat + 4) ∧ t.ir = wordAt s.mem s.pc.toNat
          ∧ t.jumped = false ∧ t.status = .running ∧ t.regs = s.regs ∧ t.flags = s.flags ∧ t.exitCode = s.exitCode
          ∧ t.lastError = s.lastError ∧ t.mem = s.mem ∧ t.dev = s.dev ∧ t.cfg = s.cfg)

/-- GETC: with input it takes one character and runs on; with none it blocks and changes nothing else (R274). The spec
marks R274 as resting on its own decisions D3, D20. -/
def Obligations.GetcReadsOrBlocks : Prop :=
  (∀ x y z : Byte, Encodes (0x38#8 ++ x ++ y ++ z) (.getc x))
    ∧ (∀ (x : RegIdx) (c : Byte) (rest : List Byte) (s : State), s.dev.input = c :: rest →
        ∃ t, exec (.getc x) s = .next t ∧ s.WritesReg t x (BitVec.ofNat 64 c.toNat) ∧ t.dev.input = rest
          ∧ t.dev.output = s.dev.output ∧ t.status = .running ∧ t.flags = s.flags ∧ t.pc = s.pc ∧ t.ir = s.ir
          ∧ t.jumped = s.jumped ∧ t.exitCode = s.exitCode ∧ t.lastError = s.lastError ∧ t.cfg = s.cfg ∧ s.SameMemory t
          ∧ s.Traced t [.regWrite x (BitVec.ofNat 64 c.toNat)])
    ∧ (∀ (x : RegIdx) (s : State), s.dev.input = [] → ∃ t, exec (.getc x) s = .next t ∧ t.status = .blocked
        ∧ t.regs = s.regs ∧ t.flags = s.flags ∧ t.pc = s.pc ∧ t.ir = s.ir ∧ t.jumped = s.jumped
        ∧ t.exitCode = s.exitCode ∧ t.lastError = s.lastError ∧ t.cfg = s.cfg ∧ s.SameMemory t ∧ t.dev = s.dev
        ∧ s.Traced t [])
    ∧ (∀ (x : RegIdx) (s : State), Fetches s (.getc x) → s.jumped = false →
        ∃ t, step s = .next t ∧ t.pc = (if s.dev.input = [] then s.pc else BitVec.ofNat 64 (s.pc.toNat + 4))
          ∧ t.status = (if s.dev.input = [] then .blocked else .running))

/-- PUTC_R and PUTC_I put out one character, unconditionally, and change nothing else (R275, R276). The spec marks
R275, R276 as resting on its own decisions D3, D4. -/
def Obligations.PutcAppendsOneCharacter : Prop :=
  (∀ x y z : Byte, Encodes (0x39#8 ++ x ++ y ++ z) (.putcR x))
    ∧ (∀ u y z : Byte, Encodes (0x3A#8 ++ u ++ y ++ z) (.putcI (zeroExt u)))
    ∧ (∀ (x : RegIdx) (s : State), ∃ t, exec (.putcR x) s = .next t
        ∧ PutcEffect (BitVec.ofNat 8 ((s.reg x).toNat % 256)) s t ∧ s.Traced t [.regRead x (s.reg x)])
    ∧ (∀ (u : Byte) (s : State), ∃ t, exec (.putcI (zeroExt u)) s = .next t ∧ PutcEffect u s t ∧ s.Traced t [])
    ∧ (∀ (u : Word) (s : State), ∃ t, exec (.putcI u) s = .next t ∧ PutcEffect (BitVec.ofNat 8 (u.toNat % 256)) s t
        ∧ s.Traced t [])

/-- A step runs the instruction the bytes at pc decode to, in RUNNING and in BLOCKED alike (R111, R112, R114, R119,
R123). -/
def Obligations.StepRunsDecodedInstruction : Prop :=
  ∀ (s : State) (i : Instr), Fetches s i → step s = finishStep (exec i (fetched s))

/-- The end of a step: after a halt, after a block, and the advance of pc with the preview (R115, R116, R117, R318).
The spec marks R318 as resting on its own decisions D18. That a HALTED state with an error recorded ends with no
further event is read from R115 and R305 together (log 14, DEDUCED): its halt event was emitted where the fault was
raised. The preview is that of R318. -/
def Obligations.StepEndsByStatus : Prop :=
  ∀ t : State,
    (t.status = .halted → t.lastError = none → finishStep (.next t) = .next (t.emit (.halt t.exitCode none)))
    ∧ (t.status = .halted → t.lastError ≠ none → finishStep (.next t) = .next t)
    ∧ (t.status = .blocked → finishStep (.next t) = .next (t.emit .block))
    ∧ (t.status = .running →
        ∃ u, finishStep (.next t) = .next u
          ∧ u.pc = (if t.jumped then t.pc else BitVec.ofNat 64 (t.pc.toNat + 4)) ∧ u.jumped = false
          ∧ u.regs = t.regs ∧ u.flags = t.flags ∧ t.SameStatus u ∧ u.mem = t.mem ∧ u.dev = t.dev
          ∧ u.trace =
            (if u.pc.toNat % 4 = 0 then
              [.preview (fieldBits (wordAt t.mem u.pc.toNat))
                (match t.cfg.opmap.kindAt (opcodeBits (wordAt t.mem u.pc.toNat)) with
                 | some _ => .ofWord (wordAt t.mem u.pc.toNat)
                 | none => .illegal)]
            else []) ++ t.trace)

/-- A step in HALTED changes nothing and emits nothing; HALTED stays until reset (R118). The spec marks R118 as
resting on its own decisions D17. -/
def Obligations.HaltedStepDoesNothing : Prop :=
  (∀ s : State, s.status = .halted → step s = .next s)
    ∧ (∀ (n : Nat) (s : State), s.status = .halted → runFuel n s = some (s.exitCode, s))
    ∧ (∀ s : State, (hostReset s).status = .running)

/-- The fetch: a pc that is no multiple of 4 faults and leaves IR; an unmapped page fetches 0; IR takes the word
(R111, R305, R61). The spec marks R305, R61 as resting on its own decisions D13, D25. What such a fault leaves as it
was, and that the halt event is its only event, are R305 and R61. -/
def Obligations.MisalignedFetchHalts : Prop :=
  (∀ s : State, s.status ≠ .halted → s.pc.toNat % 4 ≠ 0 →
      ∃ t, step s = .next t ∧ t.status = .halted ∧ t.lastError = some (.memoryMisaligned s.pc .b4) ∧ s.SameButFault t
        ∧ t.ir = s.ir ∧ s.Traced t [.halt s.exitCode (some (.memoryMisaligned s.pc .b4))])
    ∧ (∀ s t : State, s.status ≠ .halted → s.pc.toNat % 4 = 0 → step s = .next t →
        t.ir = wordAt s.mem s.pc.toNat
        ∧ (∃ events, s.Traced t (.memRead s.pc .b4 ((wordAt s.mem s.pc.toNat).setWidth 64) :: events))
        ∧ (s.mem.wf → pageOf s.pc ∉ s.mem.pages → t.ir = 0))

/-- An opcode OPMAP does not map halts with IllegalInstruction, the opcode and pc recorded, nothing else changed
(R113). -/
def Obligations.IllegalOpcodeHalts : Prop :=
  ∀ s : State, s.status ≠ .halted → s.pc.toNat % 4 = 0 → s.cfg.opmap.kindAt (s.mem.byte s.pc.toNat) = none →
    ∃ t, step s = .next t ∧ t.status = .halted
      ∧ t.lastError = some (.illegalInstruction (s.mem.byte s.pc.toNat) s.pc) ∧ s.SameButFault t
      ∧ t.ir = wordAt s.mem s.pc.toNat
      ∧ s.Traced t [.memRead s.pc .b4 ((wordAt s.mem s.pc.toNat).setWidth 64),
          .halt s.exitCode (some (.illegalInstruction (s.mem.byte s.pc.toNat) s.pc))]

/-- A blocked GETC is fetched and run again by the next step, and completes once input has come (R116, R119, R274).
The spec marks R274 as resting on its own decisions D3, D20. -/
def Obligations.BlockedGetcIsRetried : Prop :=
  ∀ (s : State) (x : RegIdx), Fetches s (.getc x) → s.jumped = false → s.dev.input = [] →
    ∃ t, step s = .next t ∧ t.status = .blocked ∧ t.pc = s.pc ∧ t.regs = s.regs ∧ t.flags = s.flags ∧ t.mem = s.mem
      ∧ t.exitCode = s.exitCode ∧ t.lastError = s.lastError ∧ t.dev = s.dev ∧ t.jumped = false
      ∧ ∀ (c : Byte) (rest : List Byte), ∃ u, step (supplyInput (c :: rest) t) = .next u ∧ u.status = .running
          ∧ u.pc = BitVec.ofNat 64 (s.pc.toNat + 4) ∧ s.WritesReg u x (BitVec.ofNat 64 c.toNat) ∧ u.dev.input = rest
          ∧ u.flags = s.flags ∧ u.mem = s.mem

/-- No instruction and no step stops the model: every outcome is a next state (R305, R306, R322). The spec marks R305
as resting on its own decisions D13, D25. It marks R322 as derived. That every outcome is a next state is the model's
choice, read from these rules (log 12): the type Fault has no constructor, and a fault of the spec is a next state in
HALTED. -/
def Obligations.EveryStepAnswersNextState : Prop :=
  (∀ s : State, ∃ t, step s = .next t) ∧ (∀ (i : Instr) (s : State), ∃ t, exec i s = .next t)

/-- A step that ends in a fault has changed nothing but the status, the error record, IR and the trace (R305, R307).
The spec marks R305, R307 as resting on its own decisions D13, D25, D32, D33. -/
def Obligations.FaultsArePrecise : Prop :=
  ∀ s t : State, s.status ≠ .halted → step s = .next t → t.status = .halted → t.lastError ≠ none →
    s.SameButFault t ∧ t.ir = (if s.pc.toNat % 4 = 0 then wordAt s.mem s.pc.toNat else s.ir)
      ∧ ∃ e, t.lastError = some e ∧ t.trace.head? = some (.halt s.exitCode (some e))

/-- Every step keeps the invariant: canonical memory, page capacity, x[0], jumped clear, BLOCKED only at a GETC,
errors only in HALTED (R21, R36, R62, R119, R120). The spec marks R36, R62 as resting on its own decisions D15, D28.
It marks R21, R120 as derived. -/
def Obligations.StepsKeepTheInvariant : Prop :=
  ∀ s t : State, s.Inv → step s = .next t → t.Inv

/-- The state after reset, and after the host's reset of any state, has the invariant (R41, R330). The spec marks R41,
R330 as resting on its own decisions D15, D16. -/
def Obligations.ResetHasTheInvariant : Prop :=
  State.reset.Inv ∧ ∀ s : State, (hostReset s).Inv

/-- The trace port's record never influences a step: the same step with another record differs in the record alone
(R18). -/
def Obligations.TraceHasNoInfluence : Prop :=
  (∀ (s t : State) (tr : List TraceEvent), step (untraced s) = .next t →
      step { s with trace := tr } = .next { t with trace := t.trace ++ tr })
    ∧ (∀ (i : Instr) (s t : State) (tr : List TraceEvent), exec i (untraced s) = .next t →
        exec i { s with trace := tr } = .next { t with trace := t.trace ++ tr })

/-- Only a GETC with no input blocks, and only a halt instruction or a fault halts (R114, R33). The spec marks R33 as
resting on its own decisions D22. -/
def Obligations.OnlyGetcBlocksOnlyHaltHalts : Prop :=
  ∀ (i : Instr) (s t : State), exec i s = .next t →
    (t.status = .blocked → s.status ≠ .blocked → (∃ x, i = .getc x) ∧ s.dev.input = [])
    ∧ (t.status = .halted → s.status ≠ .halted →
        (((∃ x, i = .haltR x) ∨ ∃ u, i = .haltI u) ∧ t.lastError = none)
        ∨ ((∀ x, i ≠ .haltR x) ∧ (∀ u, i ≠ .haltI u) ∧ t.lastError ≠ none))

/-- A flag that R25's table does not give to a kind is as it was after every instruction of the kind (R24, R25). The
spec marks R25 as derived. -/
def Obligations.FlagWritersAreTheTable : Prop :=
  ∀ (i : Instr) (s t : State), exec i s = .next t →
    ((flagsWritten i.kind).zf = false → t.flags.zf = s.flags.zf)
    ∧ ((flagsWritten i.kind).cf = false → t.flags.cf = s.flags.cf)
    ∧ ((flagsWritten i.kind).of = false → t.flags.of = s.flags.of)
    ∧ ((flagsWritten i.kind).sf = false → t.flags.sf = s.flags.sf)

/-- A register an instruction does not name as a destination is as it was, and the slot of x[0] is never written (R21,
R22). The spec marks R21, R22 as derived. -/
def Obligations.RegisterWritersAreTheList : Prop :=
  ∀ (i : Instr) (s t : State), exec i s = .next t →
    (∀ j, j ∉ destinations i → t.reg j = s.reg j) ∧ t.regs[0] = s.regs[0]

/-- Only stores write memory, only the I/O kinds use the device, only halts write the exit code; pages are never freed
(R59, R65, R183, R273, R270, R271, R31, R34, R40). The spec marks R273, R270, R271, R31, R34 as resting on its own
decisions D3, D4, D15, D17, D20, D23. It marks R59, R65 as derived. -/
def Obligations.OnlyStoresWriteMemory : Prop :=
  (∀ (i : Instr) (s t : State), exec i s = .next t →
      (isStore i.kind = false → t.mem = s.mem)
      ∧ (i.kind ≠ .getc → i.kind ≠ .putcR → i.kind ≠ .putcI → t.dev = s.dev)
      ∧ (i.kind ≠ .haltR → i.kind ≠ .haltI → t.exitCode = s.exitCode)
      ∧ t.ir = s.ir ∧ t.cfg = s.cfg ∧ ∀ p ∈ s.mem.pages, p ∈ t.mem.pages)
    ∧ (∀ s t : State, step s = .next t → t.cfg = s.cfg ∧ ∀ p ∈ s.mem.pages, p ∈ t.mem.pages)

/-- A step records only the error codes 1, 2, 4, 5 and 6, and 6 only under a bounded PAGE_CAPACITY (R54, R62, R83,
R300, R303). The spec marks R54, R62, R300 as resting on its own decisions D14, D28, D32. It marks R54, R83, R303 as
derived. -/
def Obligations.FaultCodesOfASingleStep : Prop :=
  ∀ (s t : State) (e : ErrorRecord), s.status ≠ .halted → step s = .next t → t.status = .halted → t.lastError = some e →
    (recordCode e = 1 ∨ recordCode e = 2 ∨ recordCode e = 4 ∨ recordCode e = 5 ∨ recordCode e = 6)
      ∧ (s.cfg.pageCapacity = none → recordCode e ≠ 6)

/-- A store is what the next step fetches where it covers the next word, with no fence and no delay (R72, R338, R123,
R180, R182, R183). The spec marks R180, R182 as resting on its own decisions D3, D4, D19, D24. It marks R72, R338 as
derived. -/
def Obligations.StoreIsSeenByNextFetch : Prop :=
  (∀ (d : Word) (y z : RegIdx) (s : State),
      StoreSeenByFetch (.st1D d y z) s .b1 (eaD s d y) z
      ∧ StoreSeenByFetch (.st2D d y z) s .b2 (eaD s d y) z
      ∧ StoreSeenByFetch (.st4D d y z) s .b4 (eaD s d y) z
      ∧ StoreSeenByFetch (.st8D d y z) s .b8 (eaD s d y) z)
    ∧ (∀ (x y z : RegIdx) (s : State),
      StoreSeenByFetch (.st1S1 x y z) s .b1 (eaS s x y 1) z
      ∧ StoreSeenByFetch (.st2S1 x y z) s .b2 (eaS s x y 1) z
      ∧ StoreSeenByFetch (.st4S1 x y z) s .b4 (eaS s x y 1) z
      ∧ StoreSeenByFetch (.st8S1 x y z) s .b8 (eaS s x y 1) z
      ∧ StoreSeenByFetch (.st1S2 x y z) s .b1 (eaS s x y 2) z
      ∧ StoreSeenByFetch (.st2S2 x y z) s .b2 (eaS s x y 2) z
      ∧ StoreSeenByFetch (.st4S2 x y z) s .b4 (eaS s x y 2) z
      ∧ StoreSeenByFetch (.st8S2 x y z) s .b8 (eaS s x y 2) z
      ∧ StoreSeenByFetch (.st1S4 x y z) s .b1 (eaS s x y 4) z
      ∧ StoreSeenByFetch (.st2S4 x y z) s .b2 (eaS s x y 4) z
      ∧ StoreSeenByFetch (.st4S4 x y z) s .b4 (eaS s x y 4) z
      ∧ StoreSeenByFetch (.st8S4 x y z) s .b8 (eaS s x y 4) z
      ∧ StoreSeenByFetch (.st1S8 x y z) s .b1 (eaS s x y 8) z
      ∧ StoreSeenByFetch (.st2S8 x y z) s .b2 (eaS s x y 8) z
      ∧ StoreSeenByFetch (.st4S8 x y z) s .b4 (eaS s x y 8) z
      ∧ StoreSeenByFetch (.st8S8 x y z) s .b8 (eaS s x y 8) z)

/-- Reset leaves every piece of state at the value of R41's table, from any state (R41, R330). The spec marks R41,
R330 as resting on its own decisions D15, D16. That the host's reset keeps the parameters and goes on with the trace
record is the model's choice (log 21), and so is the opaque constant for the IODevice's own reset (log 7). -/
def Obligations.ResetValues : Prop :=
  (∀ i, State.reset.reg i = 0) ∧ (∀ i : Fin 256, State.reset.regs[i] = 0)
    ∧ State.reset.flags = { zf := false, cf := false, of := false, sf := false }
    ∧ State.reset.pc = 0 ∧ State.reset.ir = 0 ∧ State.reset.jumped = false ∧ State.reset.status = .running
    ∧ State.reset.exitCode = 0 ∧ State.reset.lastError = none
    ∧ State.reset.mem.pages = [] ∧ (∀ a, State.reset.mem.byte a = 0)
    ∧ ∀ s : State,
        (hostReset s).regs = State.reset.regs ∧ (hostReset s).flags = State.reset.flags ∧ (hostReset s).pc = 0
        ∧ (hostReset s).ir = 0 ∧ (hostReset s).jumped = false ∧ (hostReset s).status = .running
        ∧ (hostReset s).exitCode = 0 ∧ (hostReset s).lastError = none ∧ (hostReset s).mem = State.reset.mem
        ∧ (hostReset s).dev = Config.deviceReset s.dev ∧ (hostReset s).cfg = s.cfg ∧ s.Traced (hostReset s) [.reset]

/-- The image load writes word i big-endian at 4i and nothing else where its pages fit, or is refused with no state
change (R63, R64, R314). The spec marks R63, R314 as resting on its own decisions D22, D26, D28. That a refusal is an
outcome of its own name is the model's choice (log 20, DEDUCED). -/
def Obligations.ImageLoadWritesWords : Prop :=
  (∀ (words : List InstrWord) (s : State), s.mem.wf → words.length ≤ 2 ^ 62 →
      (∀ n, s.cfg.pageCapacity = some n → s.mem.pages.length + newImagePages s.mem words.length ≤ n) →
      ∃ t, loadImage words s = .next t
        ∧ (∀ (i : Nat) (w : InstrWord), words[i]? = some w → wordAt t.mem (4 * i) = w)
        ∧ (∀ a, 4 * words.length ≤ a → t.mem.byte a = s.mem.byte a)
        ∧ (∀ p, p ∈ t.mem.pages ↔ p ∈ s.mem.pages ∨ ∃ i, i < words.length ∧ p = 4 * i / 1024) ∧ t.mem.wf
        ∧ t.regs = s.regs ∧ t.flags = s.flags ∧ s.SameControl t ∧ t.dev = s.dev ∧ s.Traced t [.imageLoaded words])
    ∧ (∀ (words : List InstrWord) (s : State) (n : Nat), s.mem.wf → words.length ≤ 2 ^ 62 →
        s.cfg.pageCapacity = some n → s.mem.pages.length ≤ n →
        n < s.mem.pages.length + newImagePages s.mem words.length → loadImage words s = .refused .imageDoesNotFit)
    ∧ (∀ (words : List InstrWord) (s : State), 2 ^ 62 < words.length → loadImage words s = .refused .imageTooLong)

/-- The four words of li64 load any 64-bit constant into any register but 0, with ZF (R97, R130, R132). The spec marks
R97 as resting on its own decisions D2. It marks R97 as derived. -/
def Obligations.Li64BuildsEveryConstant : Prop :=
  ∀ (c : Word) (r : RegIdx) (s : State), r ≠ 0 →
    ∃ t, execAll (pseudoLi64 c r) s = some t ∧ WritesWithZf c r s t

/-- A run under fuel that ends, ends HALTED with its exit code, and more fuel gives the same end (R121, R122). The
spec marks R122 as derived. That no input arrives during the run is the model's choice (log 23). -/
def Obligations.RunEndsHaltedAndFuelAddsNothing : Prop :=
  ∀ (n : Nat) (s : State) (c : Word) (t : State), runFuel n s = some (c, t) →
    t.status = .halted ∧ c = t.exitCode ∧ ∀ k, runFuel (n + k) s = some (c, t)

/-- reset; loadImage(P); run gives what the first run of P on a new block gave, whatever state it was reset from
(R322, R331, R333). The spec marks R331 as resting on its own decisions D15. It marks R322, R333 as derived. That the
device of both blocks is what the IODevice's own reset leaves (log 7), that the new block has the parameters of the
other (log 21), and that no input arrives during the runs (log 23), are the model's choices. -/
def Obligations.ResetAndReloadReplays : Prop :=
  ∀ (s : State) (words : List InstrWord) (n : Nat),
    match loadImage words { State.reset with cfg := s.cfg, dev := Config.deviceReset s.dev },
        loadImage words (hostReset s) with
    | .next a, .next b =>
      (runFuel n a).map (fun r => (r.1, untraced r.2)) = (runFuel n b).map (fun r => (r.1, untraced r.2))
    | .refused p, .refused q => p = q
    | _, _ => False
end

