-- ==== Sys2Proof/Laws/Bits.lean ====
section
/-!
SUPPORT. The bit fields of a word: taking a packed field apart, and extending an immediate that was narrowed to its field.
-/

namespace Sys2Proof.Laws

open Sys2Proof

@[simp] theorem byteX_packBytes (x y z : Byte) : byteX (packBytes x y z) = x := by
  apply BitVec.eq_of_getLsbD_eq
  intro i hi
  simp [byteX, packBytes]
  grind

@[simp] theorem byteY_packBytes (x y z : Byte) : byteY (packBytes x y z) = y := by
  apply BitVec.eq_of_getLsbD_eq
  intro i hi
  simp [byteY, packBytes]
  grind

@[simp] theorem byteZ_packBytes (x y z : Byte) : byteZ (packBytes x y z) = z := by
  apply BitVec.eq_of_getLsbD_eq
  intro i hi
  simp [byteZ, packBytes]
  grind

@[simp] theorem halfXY_packHalf (h : BitVec 16) (z : Byte) : halfXY (packHalf h z) = h := by
  apply BitVec.eq_of_getLsbD_eq
  intro i hi
  simp [halfXY, packHalf]
  grind

@[simp] theorem byteZ_packHalf (h : BitVec 16) (z : Byte) : byteZ (packHalf h z) = z := by
  apply BitVec.eq_of_getLsbD_eq
  intro i hi
  simp [byteZ, packHalf]
  grind

@[simp] theorem opcodeBits_append (op : Byte) (f : OperandField) : opcodeBits (op ++ f : InstrWord) = op := by
  apply BitVec.eq_of_getLsbD_eq
  intro i hi
  simp [opcodeBits]
  grind

@[simp] theorem fieldBits_append (op : Byte) (f : OperandField) : fieldBits (op ++ f : InstrWord) = f := by
  apply BitVec.eq_of_getLsbD_eq
  intro i hi
  simp [fieldBits]
  grind

/-- A word is its opcode over its operand field (R80). -/
theorem opcode_field_word (w : InstrWord) : (opcodeBits w ++ fieldBits w : InstrWord) = w := by
  apply BitVec.eq_of_getLsbD_eq
  intro i hi
  simp [opcodeBits, fieldBits]
  grind

/-- An unsigned value that fits its n-bit field comes back from it. -/
theorem zeroExt_setWidth {n : Nat} {v : Word} (h : fitsU n v = true) : zeroExt (v.setWidth n) = v := by
  simp only [fitsU, decide_eq_true_eq] at h
  apply BitVec.eq_of_toNat_eq
  simp only [zeroExt, BitVec.toNat_setWidth]
  rw [Nat.mod_eq_of_lt h, Nat.mod_eq_of_lt v.isLt]

/-- A signed value that fits its n-bit field comes back from it. -/
theorem signExt_setWidth {n : Nat} (hn : 0 < n) (hn' : n ≤ 64) {v : Word} (h : fitsS n v = true) :
    signExt (v.setWidth n) = v := by
  simp only [fitsS, Bool.and_eq_true, decide_eq_true_eq] at h
  apply BitVec.eq_of_toInt_eq
  simp only [signExt]
  rw [BitVec.toInt_signExtend_of_le hn', BitVec.toInt_setWidth]
  have h2 : ((2 : Nat) ^ n : Int) = 2 * (2 : Int) ^ (n - 1) := by
    obtain ⟨m, rfl⟩ : ∃ m, n = m + 1 := ⟨n - 1, by omega⟩
    push_cast; simp [pow_succ]; ring
  have h3 : ((v.toNat : Int)).bmod (2 ^ n) = v.toInt.bmod (2 ^ n) := by
    rw [BitVec.toInt_eq_toNat_bmod, Int.bmod_bmod_of_dvd]
    exact Nat.pow_dvd_pow 2 hn'
  rw [h3]
  apply Int.bmod_eq_of_le
  · push_cast at h2 ⊢; omega
  · push_cast at h2 ⊢; omega

theorem zeroExt_imm8 {v : Word} (h : fitsU 8 v = true) : zeroExt (imm8 v) = v := zeroExt_setWidth h

theorem zeroExt_imm16 {v : Word} (h : fitsU 16 v = true) : zeroExt (imm16 v) = v := zeroExt_setWidth h

theorem signExt_imm8 {v : Word} (h : fitsS 8 v = true) : signExt (imm8 v) = v := signExt_setWidth (by decide) (by decide) h

theorem signExt_imm16 {v : Word} (h : fitsS 16 v = true) : signExt (imm16 v) = v :=
  signExt_setWidth (by decide) (by decide) h

theorem signExt_imm24 {v : Word} (h : fitsS 24 v = true) : signExt (imm24 v) = v :=
  signExt_setWidth (by decide) (by decide) h

end Sys2Proof.Laws
end

