-- ==== Sys2Proof/Laws/Memory.lean ====
section
/-!
SUPPORT. The laws of the byte store and the pager: a byte read after a byte set, the bytes of a stored value, and that every
memory operation keeps the canonical form.
-/

namespace Sys2Proof.Laws

open Sys2Proof Sys2Proof.Machine

/-- The cells rise strictly by address. -/
abbrev Rising (m : List Host.Cell) : Prop := m.Pairwise (fun p q => p.1 < q.1)

/-- In rising cells above `a`, `a` is not listed. -/
theorem cellAt_below {m : List Host.Cell} {a : Nat} (h : ∀ p ∈ m, a < p.1) : cellAt m a = Memory.unlisted := by
  induction m with
  | nil => rfl
  | cons p m ih =>
    have hp := h p (by simp)
    simp only [cellAt, if_neg (by omega : ¬ a = p.1)]
    exact ih fun q hq => h q (by simp [hq])

/-- Setting a byte lists no address but the ones listed before and the one set. -/
theorem mem_setCell {m : List Host.Cell} {a : Nat} {b : Byte} {p : Host.Cell} (h : p ∈ setCell m a b) :
    p ∈ m ∨ (p = (a, b) ∧ b ≠ Memory.unlisted) := by
  induction m with
  | nil =>
    simp only [setCell] at h
    split at h <;> simp_all
  | cons q m ih =>
    obtain ⟨c, d⟩ := q
    simp only [setCell] at h
    split at h
    · split at h <;> simp_all
      grind
    · split at h
      · split at h <;> simp_all
        grind
      · simp only [List.mem_cons] at h ⊢
        grind

/-- Setting a byte keeps the cells rising. -/
theorem setCell_rising {m : List Host.Cell} (h : Rising m) (a : Nat) (b : Byte) : Rising (setCell m a b) := by
  induction m with
  | nil => simp only [setCell]; split <;> simp
  | cons q m ih =>
    obtain ⟨c, d⟩ := q
    obtain ⟨hq, hm⟩ := List.pairwise_cons.mp h
    simp only [setCell]
    split
    · split
      · exact h
      · refine List.pairwise_cons.mpr ⟨fun p hp => ?_, h⟩
        rcases List.mem_cons.mp hp with rfl | hp
        · assumption
        · exact Nat.lt_trans ‹a < c› (hq p hp)
    · split
      · split
        · exact hm
        · refine List.pairwise_cons.mpr ⟨fun p hp => ?_, hm⟩
          have := hq p hp
          simp only at this ⊢
          omega
      · refine List.pairwise_cons.mpr ⟨fun p hp => ?_, ih hm⟩
        rcases mem_setCell hp with hp | ⟨rfl, -⟩
        · exact hq p hp
        · simp only; omega

/-- A byte read after a byte set, in rising cells. -/
theorem cellAt_setCell {m : List Host.Cell} (h : Rising m) (a : Nat) (b : Byte) (x : Nat) :
    cellAt (setCell m a b) x = if x = a then b else cellAt m x := by
  induction m with
  | nil => simp only [setCell]; split <;> simp_all [cellAt]
  | cons q m ih =>
    obtain ⟨c, d⟩ := q
    obtain ⟨hq, hm⟩ := List.pairwise_cons.mp h
    simp only at hq
    have below : ∀ y, y ≤ c → cellAt m y = Memory.unlisted := fun y hy =>
      cellAt_below fun p hp => Nat.lt_of_le_of_lt hy (hq p hp)
    simp only [setCell]
    split
    · split
      · simp only [cellAt]
        by_cases hx : x = a
        · subst hx
          rw [if_neg (by omega), if_pos rfl, below x (by omega)]
          simp_all
        · rw [if_neg hx]
      · simp only [cellAt]
    · split
      · subst a
        split
        · simp only [cellAt]
          by_cases hx : x = c
          · subst hx
            rw [if_pos rfl, below x (Nat.le_refl x)]
            simp_all
          · rw [if_neg hx, if_neg hx]
        · simp only [cellAt]
          by_cases hx : x = c
          · rw [if_pos hx, if_pos hx]
          · rw [if_neg hx, if_neg hx, if_neg hx]
      · simp only [cellAt, ih hm]
        by_cases hx : x = c
        · rw [if_pos hx, if_neg (by omega), if_pos hx]
        · rw [if_neg hx, if_neg hx]

/-- Storing a value keeps the cells rising. -/
theorem storeCells_rising {m : List Host.Cell} (h : Rising m) (a n : Nat) (v : Word) : Rising (storeCells m a n v) := by
  induction n generalizing v with
  | zero => exact h
  | succ n ih => exact setCell_rising (ih (v >>> 8)) _ _

/-- What storing a value lists: what was listed before, or a nonzero byte among the `n` bytes from `a` on. -/
theorem mem_storeCells {m : List Host.Cell} {a n : Nat} {v : Word} {p : Host.Cell} (h : p ∈ storeCells m a n v) :
    p ∈ m ∨ (a ≤ p.1 ∧ p.1 < a + n ∧ p.2 ≠ Memory.unlisted) := by
  induction n generalizing v with
  | zero => exact .inl h
  | succ n ih =>
    rcases mem_setCell h with h | ⟨rfl, hb⟩
    · rcases ih h with h | ⟨h1, h2, h3⟩
      · exact .inl h
      · exact .inr ⟨h1, by omega, h3⟩
    · exact .inr ⟨by simp, by simp, hb⟩

/-- A byte outside a stored value is what it was. -/
theorem cellAt_storeCells_outside {m : List Host.Cell} (h : Rising m) {a n x : Nat} (v : Word) (hx : x < a ∨ a + n ≤ x) :
    cellAt (storeCells m a n v) x = cellAt m x := by
  induction n generalizing v with
  | zero => rfl
  | succ n ih =>
    simp only [storeCells]
    rw [cellAt_setCell (storeCells_rising h a n _), if_neg (by omega), ih _ (by omega)]

/-- The bytes of a stored value: byte `i` of `n` holds bits `8(n-i)-1` to `8(n-1-i)` of it (R52, R58). -/
theorem cellAt_storeCells_inside {m : List Host.Cell} (h : Rising m) {a n i : Nat} (v : Word) (hi : i < n) :
    cellAt (storeCells m a n v) (a + i) = (v >>> (8 * (n - 1 - i))).setWidth 8 := by
  induction n generalizing v with
  | zero => omega
  | succ n ih =>
    simp only [storeCells]
    rw [cellAt_setCell (storeCells_rising h a n _)]
    by_cases hn : i = n
    · subst hn; simp
    · rw [if_neg (by omega), ih _ (by omega), ← BitVec.shiftRight_add]
      congr 2
      omega

/-! ### Pages -/

/-- Which pages are allocated after an allocation. -/
theorem mem_addPage {ps : List Nat} {p x : Nat} : x ∈ addPage ps p ↔ x = p ∨ x ∈ ps := by
  induction ps with
  | nil => simp [addPage]
  | cons q ps ih =>
    simp only [addPage]
    split
    · simp
    · split
      · subst p; simp
      · simp only [List.mem_cons, ih]; grind

/-- An allocation keeps the page numbers rising. -/
theorem addPage_rising {ps : List Nat} (h : ps.Pairwise (fun p q => p < q)) (p : Nat) :
    (addPage ps p).Pairwise (fun p q => p < q) := by
  induction ps with
  | nil => simp [addPage]
  | cons q ps ih =>
    obtain ⟨hq, hps⟩ := List.pairwise_cons.mp h
    simp only [addPage]
    split
    · refine List.pairwise_cons.mpr ⟨fun x hx => ?_, h⟩
      rcases List.mem_cons.mp hx with rfl | hx
      · assumption
      · exact Nat.lt_trans ‹p < q› (hq x hx)
    · split
      · exact h
      · refine List.pairwise_cons.mpr ⟨fun x hx => ?_, ih hps⟩
        rcases mem_addPage.mp hx with rfl | hx
        · omega
        · exact hq x hx

/-- An allocated page is not allocated again. -/
theorem addPage_of_mem {ps : List Nat} (h : ps.Pairwise (fun p q => p < q)) {p : Nat} (hp : p ∈ ps) : addPage ps p = ps := by
  induction ps with
  | nil => simp at hp
  | cons q ps ih =>
    obtain ⟨hq, hps⟩ := List.pairwise_cons.mp h
    simp only [addPage]
    rcases List.mem_cons.mp hp with rfl | hp
    · simp
    · have := hq p hp
      rw [if_neg (by omega), if_neg (by omega), ih hps hp]

/-- An allocation adds at most one page. -/
theorem addPage_length_le (ps : List Nat) (p : Nat) : (addPage ps p).length ≤ ps.length + 1 := by
  induction ps with
  | nil => simp [addPage]
  | cons q ps ih =>
    simp only [addPage]
    split
    · simp
    · split
      · simp
      · simp only [List.length_cons]; omega

/-! ### Accesses -/

/-- An access that passes its checks lies inside its page (R54). -/
theorem access_in_page {a : Word} {n : Width} (h : accessError a n = none) : offsetOf a + widthBytes n ≤ pageSize := by
  simp only [accessError] at h
  split at h
  · simp at h
  · split at h
    · simp at h
    · omega

/-- The bytes of an access that passes its checks all lie in its page, and in the address space. -/
theorem access_byte_page {a : Word} {n : Width} (h : accessError a n = none) {x : Nat} (h1 : a.toNat ≤ x)
    (h2 : x < a.toNat + widthBytes n) : x / pageSize = pageOf a ∧ x < 2 ^ 64 := by
  have hp := access_in_page h
  simp only [offsetOf, pageOf, pageSize] at *
  have := a.isLt
  omega

/-- A page number of an address is below 2^54 (R36, R51). -/
theorem pageOf_lt (a : Word) : pageOf a < 2 ^ 54 := by
  have := a.isLt
  simp only [pageOf, pageSize]
  omega

/-- A width is 1 to 8 bytes (R56). -/
theorem widthBytes_pos (n : Width) : 1 ≤ widthBytes n := by cases n <;> decide

/-- A width is 1 to 8 bytes (R56). -/
theorem widthBytes_le (n : Width) : widthBytes n ≤ 8 := by cases n <;> decide

/-- Every write that passes its checks keeps the canonical form. -/
theorem write_wf {m : Memory} (h : m.wf) {a : Word} {n : Width} (ha : accessError a n = none) (v : Word) :
    (m.write a n v).wf := by
  obtain ⟨h1, h2, h3, h4⟩ := h
  refine ⟨storeCells_rising h1 _ _ _, fun p hp => ?_, addPage_rising h3 _, fun p hp => ?_⟩
  · rcases mem_storeCells hp with hp | ⟨hl, hu, hb⟩
    · obtain ⟨k1, k2, k3⟩ := h2 p hp
      exact ⟨k1, k2, mem_addPage.mpr (.inr k3)⟩
    · obtain ⟨k1, k2⟩ := access_byte_page ha hl hu
      exact ⟨k2, hb, mem_addPage.mpr (.inl k1)⟩
  · rcases mem_addPage.mp hp with rfl | hp
    · exact pageOf_lt a
    · exact h4 p hp

/-- A byte outside a write is what it was. -/
theorem write_byte_outside {m : Memory} (h : m.wf) {a : Word} {n : Width} {x : Nat} (v : Word)
    (hx : x < a.toNat ∨ a.toNat + widthBytes n ≤ x) : (m.write a n v).byte x = m.byte x :=
  cellAt_storeCells_outside h.1 v hx

/-- The bytes of a write (R52, R58). -/
theorem write_byte_inside {m : Memory} (h : m.wf) {a : Word} {n : Width} {i : Nat} (v : Word) (hi : i < widthBytes n) :
    (m.write a n v).byte (a.toNat + i) = (v >>> (8 * (widthBytes n - 1 - i))).setWidth 8 :=
  cellAt_storeCells_inside h.1 v hi

/-- The memory with nothing listed is in canonical form. -/
theorem empty_wf : Memory.wf { cells := [], pages := [] } := by decide

end Sys2Proof.Laws
end

