-- ==== Sys2Proof/Laws/State.lean ====
section
/-!
SUPPORT. One lemma per field of State and update of State, and the laws of reading and writing registers.
-/

namespace Sys2Proof.Laws

open Sys2Proof Sys2Proof.Machine

/-! ### State.emit -/

@[simp] theorem emit_regs (s : State) (e : TraceEvent) : (s.emit e).regs = s.regs := rfl
@[simp] theorem emit_flags (s : State) (e : TraceEvent) : (s.emit e).flags = s.flags := rfl
@[simp] theorem emit_pc (s : State) (e : TraceEvent) : (s.emit e).pc = s.pc := rfl
@[simp] theorem emit_ir (s : State) (e : TraceEvent) : (s.emit e).ir = s.ir := rfl
@[simp] theorem emit_jumped (s : State) (e : TraceEvent) : (s.emit e).jumped = s.jumped := rfl
@[simp] theorem emit_status (s : State) (e : TraceEvent) : (s.emit e).status = s.status := rfl
@[simp] theorem emit_exitCode (s : State) (e : TraceEvent) : (s.emit e).exitCode = s.exitCode := rfl
@[simp] theorem emit_lastError (s : State) (e : TraceEvent) : (s.emit e).lastError = s.lastError := rfl
@[simp] theorem emit_mem (s : State) (e : TraceEvent) : (s.emit e).mem = s.mem := rfl
@[simp] theorem emit_dev (s : State) (e : TraceEvent) : (s.emit e).dev = s.dev := rfl
@[simp] theorem emit_trace (s : State) (e : TraceEvent) : (s.emit e).trace = e :: s.trace := rfl
@[simp] theorem emit_cfg (s : State) (e : TraceEvent) : (s.emit e).cfg = s.cfg := rfl

@[simp] theorem emit_reg (s : State) (e : TraceEvent) (j : RegIdx) : (s.emit e).reg j = s.reg j := rfl

/-! ### State.setFlags -/

@[simp] theorem setFlags_regs (s : State) (f : Flags) : (s.setFlags f).regs = s.regs := rfl
@[simp] theorem setFlags_flags (s : State) (f : Flags) : (s.setFlags f).flags = f := rfl
@[simp] theorem setFlags_pc (s : State) (f : Flags) : (s.setFlags f).pc = s.pc := rfl
@[simp] theorem setFlags_ir (s : State) (f : Flags) : (s.setFlags f).ir = s.ir := rfl
@[simp] theorem setFlags_jumped (s : State) (f : Flags) : (s.setFlags f).jumped = s.jumped := rfl
@[simp] theorem setFlags_status (s : State) (f : Flags) : (s.setFlags f).status = s.status := rfl
@[simp] theorem setFlags_exitCode (s : State) (f : Flags) : (s.setFlags f).exitCode = s.exitCode := rfl
@[simp] theorem setFlags_lastError (s : State) (f : Flags) : (s.setFlags f).lastError = s.lastError := rfl
@[simp] theorem setFlags_mem (s : State) (f : Flags) : (s.setFlags f).mem = s.mem := rfl
@[simp] theorem setFlags_dev (s : State) (f : Flags) : (s.setFlags f).dev = s.dev := rfl
@[simp] theorem setFlags_trace (s : State) (f : Flags) : (s.setFlags f).trace = s.trace := rfl
@[simp] theorem setFlags_cfg (s : State) (f : Flags) : (s.setFlags f).cfg = s.cfg := rfl

@[simp] theorem setFlags_reg (s : State) (f : Flags) (j : RegIdx) : (s.setFlags f).reg j = s.reg j := rfl

/-! ### State.setZf -/

@[simp] theorem setZf_regs (s : State) (b : Bool) : (s.setZf b).regs = s.regs := rfl
@[simp] theorem setZf_flags (s : State) (b : Bool) : (s.setZf b).flags = { s.flags with zf := b } := rfl
@[simp] theorem setZf_pc (s : State) (b : Bool) : (s.setZf b).pc = s.pc := rfl
@[simp] theorem setZf_ir (s : State) (b : Bool) : (s.setZf b).ir = s.ir := rfl
@[simp] theorem setZf_jumped (s : State) (b : Bool) : (s.setZf b).jumped = s.jumped := rfl
@[simp] theorem setZf_status (s : State) (b : Bool) : (s.setZf b).status = s.status := rfl
@[simp] theorem setZf_exitCode (s : State) (b : Bool) : (s.setZf b).exitCode = s.exitCode := rfl
@[simp] theorem setZf_lastError (s : State) (b : Bool) : (s.setZf b).lastError = s.lastError := rfl
@[simp] theorem setZf_mem (s : State) (b : Bool) : (s.setZf b).mem = s.mem := rfl
@[simp] theorem setZf_dev (s : State) (b : Bool) : (s.setZf b).dev = s.dev := rfl
@[simp] theorem setZf_trace (s : State) (b : Bool) : (s.setZf b).trace = s.trace := rfl
@[simp] theorem setZf_cfg (s : State) (b : Bool) : (s.setZf b).cfg = s.cfg := rfl

@[simp] theorem setZf_reg (s : State) (b : Bool) (j : RegIdx) : (s.setZf b).reg j = s.reg j := rfl

/-! ### State.jumpTo -/

@[simp] theorem jumpTo_regs (s : State) (t : Word) : (s.jumpTo t).regs = s.regs := rfl
@[simp] theorem jumpTo_flags (s : State) (t : Word) : (s.jumpTo t).flags = s.flags := rfl
@[simp] theorem jumpTo_pc (s : State) (t : Word) : (s.jumpTo t).pc = t := rfl
@[simp] theorem jumpTo_ir (s : State) (t : Word) : (s.jumpTo t).ir = s.ir := rfl
@[simp] theorem jumpTo_jumped (s : State) (t : Word) : (s.jumpTo t).jumped = true := rfl
@[simp] theorem jumpTo_status (s : State) (t : Word) : (s.jumpTo t).status = s.status := rfl
@[simp] theorem jumpTo_exitCode (s : State) (t : Word) : (s.jumpTo t).exitCode = s.exitCode := rfl
@[simp] theorem jumpTo_lastError (s : State) (t : Word) : (s.jumpTo t).lastError = s.lastError := rfl
@[simp] theorem jumpTo_mem (s : State) (t : Word) : (s.jumpTo t).mem = s.mem := rfl
@[simp] theorem jumpTo_dev (s : State) (t : Word) : (s.jumpTo t).dev = s.dev := rfl
@[simp] theorem jumpTo_trace (s : State) (t : Word) : (s.jumpTo t).trace = s.trace := rfl
@[simp] theorem jumpTo_cfg (s : State) (t : Word) : (s.jumpTo t).cfg = s.cfg := rfl

@[simp] theorem jumpTo_reg (s : State) (t : Word) (j : RegIdx) : (s.jumpTo t).reg j = s.reg j := rfl

/-! ### State.setIr -/

@[simp] theorem setIr_regs (s : State) (w : InstrWord) : (s.setIr w).regs = s.regs := rfl
@[simp] theorem setIr_flags (s : State) (w : InstrWord) : (s.setIr w).flags = s.flags := rfl
@[simp] theorem setIr_pc (s : State) (w : InstrWord) : (s.setIr w).pc = s.pc := rfl
@[simp] theorem setIr_ir (s : State) (w : InstrWord) : (s.setIr w).ir = w := rfl
@[simp] theorem setIr_jumped (s : State) (w : InstrWord) : (s.setIr w).jumped = s.jumped := rfl
@[simp] theorem setIr_status (s : State) (w : InstrWord) : (s.setIr w).status = s.status := rfl
@[simp] theorem setIr_exitCode (s : State) (w : InstrWord) : (s.setIr w).exitCode = s.exitCode := rfl
@[simp] theorem setIr_lastError (s : State) (w : InstrWord) : (s.setIr w).lastError = s.lastError := rfl
@[simp] theorem setIr_mem (s : State) (w : InstrWord) : (s.setIr w).mem = s.mem := rfl
@[simp] theorem setIr_dev (s : State) (w : InstrWord) : (s.setIr w).dev = s.dev := rfl
@[simp] theorem setIr_trace (s : State) (w : InstrWord) : (s.setIr w).trace = s.trace := rfl
@[simp] theorem setIr_cfg (s : State) (w : InstrWord) : (s.setIr w).cfg = s.cfg := rfl

@[simp] theorem setIr_reg (s : State) (w : InstrWord) (j : RegIdx) : (s.setIr w).reg j = s.reg j := rfl

/-! ### State.setStatus -/

@[simp] theorem setStatus_regs (s : State) (st : Status) : (s.setStatus st).regs = s.regs := rfl
@[simp] theorem setStatus_flags (s : State) (st : Status) : (s.setStatus st).flags = s.flags := rfl
@[simp] theorem setStatus_pc (s : State) (st : Status) : (s.setStatus st).pc = s.pc := rfl
@[simp] theorem setStatus_ir (s : State) (st : Status) : (s.setStatus st).ir = s.ir := rfl
@[simp] theorem setStatus_jumped (s : State) (st : Status) : (s.setStatus st).jumped = s.jumped := rfl
@[simp] theorem setStatus_status (s : State) (st : Status) : (s.setStatus st).status = st := rfl
@[simp] theorem setStatus_exitCode (s : State) (st : Status) : (s.setStatus st).exitCode = s.exitCode := rfl
@[simp] theorem setStatus_lastError (s : State) (st : Status) : (s.setStatus st).lastError = s.lastError := rfl
@[simp] theorem setStatus_mem (s : State) (st : Status) : (s.setStatus st).mem = s.mem := rfl
@[simp] theorem setStatus_dev (s : State) (st : Status) : (s.setStatus st).dev = s.dev := rfl
@[simp] theorem setStatus_trace (s : State) (st : Status) : (s.setStatus st).trace = s.trace := rfl
@[simp] theorem setStatus_cfg (s : State) (st : Status) : (s.setStatus st).cfg = s.cfg := rfl

@[simp] theorem setStatus_reg (s : State) (st : Status) (j : RegIdx) : (s.setStatus st).reg j = s.reg j := rfl

/-! ### State.setMem -/

@[simp] theorem setMem_regs (s : State) (m : Memory) : (s.setMem m).regs = s.regs := rfl
@[simp] theorem setMem_flags (s : State) (m : Memory) : (s.setMem m).flags = s.flags := rfl
@[simp] theorem setMem_pc (s : State) (m : Memory) : (s.setMem m).pc = s.pc := rfl
@[simp] theorem setMem_ir (s : State) (m : Memory) : (s.setMem m).ir = s.ir := rfl
@[simp] theorem setMem_jumped (s : State) (m : Memory) : (s.setMem m).jumped = s.jumped := rfl
@[simp] theorem setMem_status (s : State) (m : Memory) : (s.setMem m).status = s.status := rfl
@[simp] theorem setMem_exitCode (s : State) (m : Memory) : (s.setMem m).exitCode = s.exitCode := rfl
@[simp] theorem setMem_lastError (s : State) (m : Memory) : (s.setMem m).lastError = s.lastError := rfl
@[simp] theorem setMem_mem (s : State) (m : Memory) : (s.setMem m).mem = m := rfl
@[simp] theorem setMem_dev (s : State) (m : Memory) : (s.setMem m).dev = s.dev := rfl
@[simp] theorem setMem_trace (s : State) (m : Memory) : (s.setMem m).trace = s.trace := rfl
@[simp] theorem setMem_cfg (s : State) (m : Memory) : (s.setMem m).cfg = s.cfg := rfl

@[simp] theorem setMem_reg (s : State) (m : Memory) (j : RegIdx) : (s.setMem m).reg j = s.reg j := rfl

/-! ### State.setDev -/

@[simp] theorem setDev_regs (s : State) (d : IODevice) : (s.setDev d).regs = s.regs := rfl
@[simp] theorem setDev_flags (s : State) (d : IODevice) : (s.setDev d).flags = s.flags := rfl
@[simp] theorem setDev_pc (s : State) (d : IODevice) : (s.setDev d).pc = s.pc := rfl
@[simp] theorem setDev_ir (s : State) (d : IODevice) : (s.setDev d).ir = s.ir := rfl
@[simp] theorem setDev_jumped (s : State) (d : IODevice) : (s.setDev d).jumped = s.jumped := rfl
@[simp] theorem setDev_status (s : State) (d : IODevice) : (s.setDev d).status = s.status := rfl
@[simp] theorem setDev_exitCode (s : State) (d : IODevice) : (s.setDev d).exitCode = s.exitCode := rfl
@[simp] theorem setDev_lastError (s : State) (d : IODevice) : (s.setDev d).lastError = s.lastError := rfl
@[simp] theorem setDev_mem (s : State) (d : IODevice) : (s.setDev d).mem = s.mem := rfl
@[simp] theorem setDev_dev (s : State) (d : IODevice) : (s.setDev d).dev = d := rfl
@[simp] theorem setDev_trace (s : State) (d : IODevice) : (s.setDev d).trace = s.trace := rfl
@[simp] theorem setDev_cfg (s : State) (d : IODevice) : (s.setDev d).cfg = s.cfg := rfl

@[simp] theorem setDev_reg (s : State) (d : IODevice) (j : RegIdx) : (s.setDev d).reg j = s.reg j := rfl

/-! ### State.faulted -/

@[simp] theorem faulted_regs (s : State) (e : ErrorRecord) : (s.faulted e).regs = s.regs := rfl
@[simp] theorem faulted_flags (s : State) (e : ErrorRecord) : (s.faulted e).flags = s.flags := rfl
@[simp] theorem faulted_pc (s : State) (e : ErrorRecord) : (s.faulted e).pc = s.pc := rfl
@[simp] theorem faulted_ir (s : State) (e : ErrorRecord) : (s.faulted e).ir = s.ir := rfl
@[simp] theorem faulted_jumped (s : State) (e : ErrorRecord) : (s.faulted e).jumped = s.jumped := rfl
@[simp] theorem faulted_status (s : State) (e : ErrorRecord) : (s.faulted e).status = .halted := rfl
@[simp] theorem faulted_exitCode (s : State) (e : ErrorRecord) : (s.faulted e).exitCode = s.exitCode := rfl
@[simp] theorem faulted_lastError (s : State) (e : ErrorRecord) : (s.faulted e).lastError = some e := rfl
@[simp] theorem faulted_mem (s : State) (e : ErrorRecord) : (s.faulted e).mem = s.mem := rfl
@[simp] theorem faulted_dev (s : State) (e : ErrorRecord) : (s.faulted e).dev = s.dev := rfl
@[simp] theorem faulted_trace (s : State) (e : ErrorRecord) : (s.faulted e).trace = .halt s.exitCode (some e) :: s.trace := rfl
@[simp] theorem faulted_cfg (s : State) (e : ErrorRecord) : (s.faulted e).cfg = s.cfg := rfl

@[simp] theorem faulted_reg (s : State) (e : ErrorRecord) (j : RegIdx) : (s.faulted e).reg j = s.reg j := rfl

/-! ### State.haltWith -/

@[simp] theorem haltWith_regs (s : State) (c : Word) : (s.haltWith c).regs = s.regs := rfl
@[simp] theorem haltWith_flags (s : State) (c : Word) : (s.haltWith c).flags = s.flags := rfl
@[simp] theorem haltWith_pc (s : State) (c : Word) : (s.haltWith c).pc = s.pc := rfl
@[simp] theorem haltWith_ir (s : State) (c : Word) : (s.haltWith c).ir = s.ir := rfl
@[simp] theorem haltWith_jumped (s : State) (c : Word) : (s.haltWith c).jumped = s.jumped := rfl
@[simp] theorem haltWith_status (s : State) (c : Word) : (s.haltWith c).status = .halted := rfl
@[simp] theorem haltWith_exitCode (s : State) (c : Word) : (s.haltWith c).exitCode = c := rfl
@[simp] theorem haltWith_lastError (s : State) (c : Word) : (s.haltWith c).lastError = none := rfl
@[simp] theorem haltWith_mem (s : State) (c : Word) : (s.haltWith c).mem = s.mem := rfl
@[simp] theorem haltWith_dev (s : State) (c : Word) : (s.haltWith c).dev = s.dev := rfl
@[simp] theorem haltWith_trace (s : State) (c : Word) : (s.haltWith c).trace = s.trace := rfl
@[simp] theorem haltWith_cfg (s : State) (c : Word) : (s.haltWith c).cfg = s.cfg := rfl

@[simp] theorem haltWith_reg (s : State) (c : Word) (j : RegIdx) : (s.haltWith c).reg j = s.reg j := rfl

/-! ### State.putChar -/

@[simp] theorem putChar_regs (s : State) (c : Byte) : (s.putChar c).regs = s.regs := rfl
@[simp] theorem putChar_flags (s : State) (c : Byte) : (s.putChar c).flags = s.flags := rfl
@[simp] theorem putChar_pc (s : State) (c : Byte) : (s.putChar c).pc = s.pc := rfl
@[simp] theorem putChar_ir (s : State) (c : Byte) : (s.putChar c).ir = s.ir := rfl
@[simp] theorem putChar_jumped (s : State) (c : Byte) : (s.putChar c).jumped = s.jumped := rfl
@[simp] theorem putChar_status (s : State) (c : Byte) : (s.putChar c).status = s.status := rfl
@[simp] theorem putChar_exitCode (s : State) (c : Byte) : (s.putChar c).exitCode = s.exitCode := rfl
@[simp] theorem putChar_lastError (s : State) (c : Byte) : (s.putChar c).lastError = s.lastError := rfl
@[simp] theorem putChar_mem (s : State) (c : Byte) : (s.putChar c).mem = s.mem := rfl
@[simp] theorem putChar_dev (s : State) (c : Byte) : (s.putChar c).dev = devicePutc s.dev c := rfl
@[simp] theorem putChar_trace (s : State) (c : Byte) : (s.putChar c).trace = s.trace := rfl
@[simp] theorem putChar_cfg (s : State) (c : Byte) : (s.putChar c).cfg = s.cfg := rfl

@[simp] theorem putChar_reg (s : State) (c : Byte) (j : RegIdx) : (s.putChar c).reg j = s.reg j := rfl

/-! ### State.setReg and State.writeReg -/

@[simp] theorem setReg_flags (s : State) (i : RegIdx) (v : Word) : (s.setReg i v).flags = s.flags := by
  unfold State.setReg; split <;> rfl

@[simp] theorem setReg_pc (s : State) (i : RegIdx) (v : Word) : (s.setReg i v).pc = s.pc := by
  unfold State.setReg; split <;> rfl

@[simp] theorem setReg_ir (s : State) (i : RegIdx) (v : Word) : (s.setReg i v).ir = s.ir := by
  unfold State.setReg; split <;> rfl

@[simp] theorem setReg_jumped (s : State) (i : RegIdx) (v : Word) : (s.setReg i v).jumped = s.jumped := by
  unfold State.setReg; split <;> rfl

@[simp] theorem setReg_status (s : State) (i : RegIdx) (v : Word) : (s.setReg i v).status = s.status := by
  unfold State.setReg; split <;> rfl

@[simp] theorem setReg_exitCode (s : State) (i : RegIdx) (v : Word) : (s.setReg i v).exitCode = s.exitCode := by
  unfold State.setReg; split <;> rfl

@[simp] theorem setReg_lastError (s : State) (i : RegIdx) (v : Word) : (s.setReg i v).lastError = s.lastError := by
  unfold State.setReg; split <;> rfl

@[simp] theorem setReg_mem (s : State) (i : RegIdx) (v : Word) : (s.setReg i v).mem = s.mem := by
  unfold State.setReg; split <;> rfl

@[simp] theorem setReg_dev (s : State) (i : RegIdx) (v : Word) : (s.setReg i v).dev = s.dev := by
  unfold State.setReg; split <;> rfl

@[simp] theorem setReg_trace (s : State) (i : RegIdx) (v : Word) : (s.setReg i v).trace = s.trace := by
  unfold State.setReg; split <;> rfl

@[simp] theorem setReg_cfg (s : State) (i : RegIdx) (v : Word) : (s.setReg i v).cfg = s.cfg := by
  unfold State.setReg; split <;> rfl

/-- x[0] reads as 0 (R21). -/
@[simp] theorem reg_zero (s : State) : s.reg 0#8 = 0#64 := rfl

/-- A read after a write: the value written, but for x[0] (R11, R21). -/
@[simp] theorem setReg_reg (s : State) (i j : RegIdx) (v : Word) :
    (s.setReg i v).reg j = if j = i ∧ i ≠ 0#8 then v else s.reg j := by
  by_cases hj : j = 0#8
  · subst hj
    have : ¬ (0#8 = i ∧ i ≠ 0#8) := fun h => h.2 h.1.symm
    rw [if_neg this]; rfl
  · by_cases hi : i = 0#8
    · have : s.setReg i v = s := if_pos hi
      rw [this, if_neg fun h => h.2 hi]
    · have hs : s.setReg i v = { s with regs := s.regs.set i.toNat v i.isLt } := if_neg hi
      have hr : ∀ t : State, t.reg j = t.regs[j.toNat]'j.isLt := fun t => if_neg hj
      rw [hs, hr, hr, Vector.getElem_set]
      simp only [BitVec.toNat_inj, eq_comm]
      grind

/-- The slot of x[0] is never written (R21). -/
@[simp] theorem setReg_regs_zero (s : State) (i : RegIdx) (v : Word) : (s.setReg i v).regs[0] = s.regs[0] := by
  unfold State.setReg
  split
  · rfl
  · have : ¬ i.toNat = 0 := fun h => ‹¬ i = 0#8› (BitVec.eq_of_toNat_eq h)
    simp [this]

@[simp] theorem writeReg_flags (s : State) (i : RegIdx) (v : Word) : (s.writeReg i v).flags = s.flags := by
  simp [State.writeReg]

@[simp] theorem writeReg_pc (s : State) (i : RegIdx) (v : Word) : (s.writeReg i v).pc = s.pc := by
  simp [State.writeReg]

@[simp] theorem writeReg_ir (s : State) (i : RegIdx) (v : Word) : (s.writeReg i v).ir = s.ir := by
  simp [State.writeReg]

@[simp] theorem writeReg_jumped (s : State) (i : RegIdx) (v : Word) : (s.writeReg i v).jumped = s.jumped := by
  simp [State.writeReg]

@[simp] theorem writeReg_status (s : State) (i : RegIdx) (v : Word) : (s.writeReg i v).status = s.status := by
  simp [State.writeReg]

@[simp] theorem writeReg_exitCode (s : State) (i : RegIdx) (v : Word) : (s.writeReg i v).exitCode = s.exitCode := by
  simp [State.writeReg]

@[simp] theorem writeReg_lastError (s : State) (i : RegIdx) (v : Word) : (s.writeReg i v).lastError = s.lastError := by
  simp [State.writeReg]

@[simp] theorem writeReg_mem (s : State) (i : RegIdx) (v : Word) : (s.writeReg i v).mem = s.mem := by
  simp [State.writeReg]

@[simp] theorem writeReg_dev (s : State) (i : RegIdx) (v : Word) : (s.writeReg i v).dev = s.dev := by
  simp [State.writeReg]

@[simp] theorem writeReg_trace (s : State) (i : RegIdx) (v : Word) : (s.writeReg i v).trace = .regWrite i v :: s.trace := by
  simp [State.writeReg]

@[simp] theorem writeReg_cfg (s : State) (i : RegIdx) (v : Word) : (s.writeReg i v).cfg = s.cfg := by
  simp [State.writeReg]

/-- A register read after `x[i] <- v` (R11, R21). -/
@[simp] theorem writeReg_reg (s : State) (i j : RegIdx) (v : Word) :
    (s.writeReg i v).reg j = if j = i ∧ i ≠ 0#8 then v else s.reg j := by
  simp [State.writeReg]

/-- The slot of x[0] is never written (R21). -/
@[simp] theorem writeReg_regs_zero (s : State) (i : RegIdx) (v : Word) : (s.writeReg i v).regs[0] = s.regs[0] := by
  simp [State.writeReg]

/-! ### State.incrementIP and State.preview (R29, R318) -/

@[simp] theorem incrementIP_regs (s : State) : s.incrementIP.regs = s.regs := by
  unfold State.incrementIP; split <;> rfl

@[simp] theorem incrementIP_flags (s : State) : s.incrementIP.flags = s.flags := by
  unfold State.incrementIP; split <;> rfl

@[simp] theorem incrementIP_ir (s : State) : s.incrementIP.ir = s.ir := by
  unfold State.incrementIP; split <;> rfl

@[simp] theorem incrementIP_status (s : State) : s.incrementIP.status = s.status := by
  unfold State.incrementIP; split <;> rfl

@[simp] theorem incrementIP_exitCode (s : State) : s.incrementIP.exitCode = s.exitCode := by
  unfold State.incrementIP; split <;> rfl

@[simp] theorem incrementIP_lastError (s : State) : s.incrementIP.lastError = s.lastError := by
  unfold State.incrementIP; split <;> rfl

@[simp] theorem incrementIP_mem (s : State) : s.incrementIP.mem = s.mem := by
  unfold State.incrementIP; split <;> rfl

@[simp] theorem incrementIP_dev (s : State) : s.incrementIP.dev = s.dev := by
  unfold State.incrementIP; split <;> rfl

@[simp] theorem incrementIP_trace (s : State) : s.incrementIP.trace = s.trace := by
  unfold State.incrementIP; split <;> rfl

@[simp] theorem incrementIP_cfg (s : State) : s.incrementIP.cfg = s.cfg := by
  unfold State.incrementIP; split <;> rfl

/-- incrementIP moves pc past the word unless a transfer has marked jumped (R29). -/
@[simp] theorem incrementIP_pc (s : State) : s.incrementIP.pc = if s.jumped then s.pc else s.pc + 4#64 := by
  unfold State.incrementIP; split <;> rfl

/-- incrementIP leaves jumped 0 (R29, R120). -/
@[simp] theorem incrementIP_jumped (s : State) : s.incrementIP.jumped = false := by
  unfold State.incrementIP; split <;> simp_all

@[simp] theorem incrementIP_reg (s : State) (j : RegIdx) : s.incrementIP.reg j = s.reg j := by
  unfold State.incrementIP; split <;> rfl

@[simp] theorem preview_regs (s : State) (p : Word) : (s.preview p).regs = s.regs := by
  unfold State.preview; split <;> rfl

@[simp] theorem preview_flags (s : State) (p : Word) : (s.preview p).flags = s.flags := by
  unfold State.preview; split <;> rfl

@[simp] theorem preview_pc (s : State) (p : Word) : (s.preview p).pc = s.pc := by
  unfold State.preview; split <;> rfl

@[simp] theorem preview_ir (s : State) (p : Word) : (s.preview p).ir = s.ir := by
  unfold State.preview; split <;> rfl

@[simp] theorem preview_jumped (s : State) (p : Word) : (s.preview p).jumped = s.jumped := by
  unfold State.preview; split <;> rfl

@[simp] theorem preview_status (s : State) (p : Word) : (s.preview p).status = s.status := by
  unfold State.preview; split <;> rfl

@[simp] theorem preview_exitCode (s : State) (p : Word) : (s.preview p).exitCode = s.exitCode := by
  unfold State.preview; split <;> rfl

@[simp] theorem preview_lastError (s : State) (p : Word) : (s.preview p).lastError = s.lastError := by
  unfold State.preview; split <;> rfl

@[simp] theorem preview_mem (s : State) (p : Word) : (s.preview p).mem = s.mem := by
  unfold State.preview; split <;> rfl

@[simp] theorem preview_dev (s : State) (p : Word) : (s.preview p).dev = s.dev := by
  unfold State.preview; split <;> rfl

@[simp] theorem preview_cfg (s : State) (p : Word) : (s.preview p).cfg = s.cfg := by
  unfold State.preview; split <;> rfl

@[simp] theorem preview_reg (s : State) (p : Word) (j : RegIdx) : (s.preview p).reg j = s.reg j := by
  unfold State.preview; split <;> rfl

/-! ### Reset -/

/-- The memory at reset is in canonical form (R36). -/
theorem reset_mem_wf : State.reset.mem.wf := empty_wf

end Sys2Proof.Laws
end

