-- ==== Sys2Proof/Laws/Host.lean ====
section
/-!
SUPPORT. Laws of the host's ports and of the assembler's branch targets.
-/

namespace Sys2Proof.Laws

open Sys2Proof Sys2Proof.Machine

/-! ### The text of an error (R300) -/

theorem hexDigit_injective {m n : Nat} (hm : m < 16) (hn : n < 16) (h : hexDigit m = hexDigit n) : m = n := by
  have key : ∀ a b : Fin 16, hexDigit a = hexDigit b → a = b := by decide +kernel
  exact congrArg Fin.val (key ⟨m, hm⟩ ⟨n, hn⟩ h)

/-- The text `hexByte` gives determines the opcode. -/
theorem hexByte_injective {a b : Byte} (h : hexByte a = hexByte b) : a = b := by
  have hl := String.ofList_injective h
  simp only [List.cons.injEq, and_true, true_and] at hl
  have ha := a.isLt
  have hb := b.isLt
  have h1 := hexDigit_injective (by omega) (by omega) hl.1
  have h2 := hexDigit_injective (by omega) (by omega) hl.2
  exact BitVec.eq_of_toNat_eq (by omega)

/-- In either notation the text determines the opcode: the value itself is in the text, not a part of it. -/
theorem showOpcode_injective {a b : Byte} (h : showOpcode a = showOpcode b) : a = b := by
  unfold showOpcode at h
  split at h
  · exact hexByte_injective h
  · exact BitVec.eq_of_toNat_eq (Nat.repr_inj.mp h)

/-- The text of an IllegalInstruction includes the opcode value (R300). -/
theorem errorText_includes_opcode (op : Byte) (pc : Word) :
    ∃ before behind, errorText (.illegalInstruction op pc) = before ++ showOpcode op ++ behind := ⟨_, _, rfl⟩

/-! ### Branch targets (R96) -/

/-- The offset the assembler encodes leads from the jump to its label (R251), and fits its field. -/
theorem branchOffset_reaches {source target v : Word} (h : branchOffset source target = some v) :
    source + 4#64 * v = target ∧ -(2 : Int) ^ 23 ≤ v.toInt ∧ v.toInt ≤ (2 : Int) ^ 23 - 1 := by
  unfold branchOffset at h
  simp only at h
  split at h
  · rename_i hc
    obtain ⟨h4, hlo, hhi⟩ := hc
    simp only [Option.some.injEq] at h
    subst h
    have hv : (BitVec.ofInt 64 ((target - source).toInt / 4)).toInt = (target - source).toInt / 4 := by
      rw [BitVec.toInt_ofInt, Int.bmod_eq_of_le (by omega) (by omega)]
    refine ⟨?_, by omega, by omega⟩
    have hd : 4#64 * BitVec.ofInt 64 ((target - source).toInt / 4) = target - source := by
      apply BitVec.eq_of_toInt_eq
      rw [BitVec.toInt_mul, hv, show (4#64).toInt = 4 from rfl,
        show 4 * ((target - source).toInt / 4) = (target - source).toInt by omega]
      exact Int.bmod_eq_of_le (by have := BitVec.le_toInt (target - source); omega)
        (by have := BitVec.toInt_lt (x := target - source); omega)
    rw [hd, BitVec.add_comm, BitVec.sub_add_cancel]
  · cases h

/-- Every target a jump can reach is encoded, with the jump's own offset: `branchOffset` is the inverse of R251. -/
theorem branchOffset_of_jump (source : Word) (f : BitVec 24) :
    branchOffset source (source + 4#64 * signExt f) = some (signExt f) := by
  have hs : (signExt f : Word).toInt = f.toInt := BitVec.toInt_signExtend_of_le (by omega)
  have hlo := BitVec.le_toInt f
  have hhi := BitVec.toInt_lt (x := f)
  have hd : (source + 4#64 * signExt f - source).toInt = 4 * f.toInt := by
    rw [show source + 4#64 * signExt f - source = 4#64 * signExt f by rw [BitVec.add_comm, BitVec.add_sub_cancel],
      BitVec.toInt_mul, hs, show (4#64).toInt = 4 from rfl]
    exact Int.bmod_eq_of_le (by omega) (by omega)
  simp only [branchOffset, hd]
  rw [if_pos (by omega), show 4 * f.toInt / 4 = f.toInt by omega, ← hs, BitVec.ofInt_toInt]

/-! ### Runs (R121, R312) -/

/-- When no character arrives, nothing has changed. -/
@[simp] theorem supplyInput_nil (s : State) : supplyInput [] s = s := by
  simp [supplyInput, State.setDev]

/-- The run under fuel is the run in which nothing arrives (log 23). -/
theorem runWithInput_nothing (n : Nat) (s : State) : runWithInput (List.replicate n []) s = runFuel n s := by
  induction n generalizing s with
  | zero => rfl
  | succ n ih =>
    rw [List.replicate_succ, runWithInput, runFuel, supplyInput_nil]
    split
    · rfl
    · cases h : step s with
      | next t => exact ih t
      | fault r => rfl
      | refused r => rfl

/-! ### Image loads (R63) -/

/-- The pages after an image's words are stored: those there were, and those of the addresses stored to. -/
theorem mem_storeWords_pages (ws : List InstrWord) (m : Memory) (a : Word) (p : Nat) :
    p ∈ (storeWords m a ws).pages ↔ p ∈ m.pages ∨ ∃ i, i < ws.length ∧ p = pageOf (a + BitVec.ofNat 64 (4 * i)) := by
  induction ws generalizing m a with
  | nil => simp [storeWords]
  | cons w ws ih =>
    have hstep : ∀ i, a + 4 + BitVec.ofNat 64 (4 * i) = a + BitVec.ofNat 64 (4 * (i + 1)) := by
      intro i
      rw [BitVec.add_assoc, Nat.mul_add, Nat.add_comm (4 * i), BitVec.ofNat_add]
      rfl
    simp only [storeWords, ih, Memory.write, mem_addPage, hstep, List.length_cons]
    constructor
    · rintro ((rfl | h) | ⟨i, hi, rfl⟩)
      · exact .inr ⟨0, by omega, by simp⟩
      · exact .inl h
      · exact .inr ⟨i + 1, by omega, rfl⟩
    · rintro (h | ⟨i, hi, rfl⟩)
      · exact .inl (.inr h)
      · cases i with
        | zero => exact .inl (.inl (by simp))
        | succ i => exact .inr ⟨i, by omega, rfl⟩

end Sys2Proof.Laws
end

