-- ==== Sys2Proof/Laws/Ops.lean ====
section
/-!
SUPPORT. One law per shared operation, saying once what it can do.
-/

namespace Sys2Proof.Laws

open Sys2Proof Sys2Proof.Machine

/-- Reading a register hands its value on and emits one event (R317). -/
@[simp] theorem readReg_eq (i : RegIdx) (s : State) (k : Word → State → Result) :
    readReg i s k = k (s.reg i) (s.emit (.regRead i (s.reg i))) := rfl

/-- A fault is a next state (R305). -/
@[simp] theorem raise_eq (e : ErrorRecord) (s : State) : raise e s = .next (s.faulted e) := rfl

/-- The widths the instructions and the fetch use (R56). -/
def PowerWidth (n : Width) : Prop := n = .b1 ∨ n = .b2 ∨ n = .b4 ∨ n = .b8

/-- An access of an instruction's width fails exactly when it is misaligned, and never out of bounds (R53, R54). -/
theorem accessError_power {n : Width} (hn : PowerWidth n) (a : Word) :
    accessError a n = if a.toNat % widthBytes n = 0 then none else some (.memoryMisaligned a n) := by
  have key : ∀ o : Nat, o < 1024 →
      (if o % widthBytes n ≠ 0 then some (ErrorRecord.memoryMisaligned a n)
        else if o + widthBytes n > 1024 then some (.memoryOutOfBounds a n) else none)
        = if o % widthBytes n = 0 then none else some (.memoryMisaligned a n) := by
    intro o ho
    have hb : o % widthBytes n = 0 → o + widthBytes n ≤ 1024 := by
      rcases hn with rfl | rfl | rfl | rfl <;> simp only [widthBytes] <;> omega
    by_cases h : o % widthBytes n = 0
    · have := hb h
      simp [h, show ¬ (1024 < o + widthBytes n) by omega]
    · simp [h]
  have hm : a.toNat % 1024 % widthBytes n = a.toNat % widthBytes n :=
    Nat.mod_mod_of_dvd _ (by rcases hn with rfl | rfl | rfl | rfl <;> decide)
  rw [← hm]
  exact key _ (Nat.mod_lt _ (by decide))

/-- A read whose checks pass (R55). -/
theorem memRead_ok {a : Word} {n : Width} (h : accessError a n = none) (s : State) (k : Word → State → Result) :
    memRead a n s k = k (s.mem.read a n) (s.emit (.memRead a n (s.mem.read a n))) := by
  simp only [memRead, h]

/-- A read whose checks fail (R55). -/
theorem memRead_fault {a : Word} {n : Width} {e : ErrorRecord} (h : accessError a n = some e) (s : State)
    (k : Word → State → Result) : memRead a n s k = .next (s.faulted e) := by
  simp only [memRead, h, raise_eq]

/-- Everything a read can do. -/
theorem memRead_cases (a : Word) (n : Width) (s : State) (k : Word → State → Result) :
    (∃ e, accessError a n = some e ∧ memRead a n s k = .next (s.faulted e)) ∨
      (accessError a n = none ∧ memRead a n s k = k (s.mem.read a n) (s.emit (.memRead a n (s.mem.read a n)))) := by
  cases h : accessError a n with
  | none => exact .inr ⟨rfl, memRead_ok h s k⟩
  | some e => exact .inl ⟨e, rfl, memRead_fault h s k⟩

/-- A write whose checks pass and whose page is there or can be allocated (R58). -/
theorem memWrite_ok {a : Word} {n : Width} (h : accessError a n = none) {s : State}
    (hp : Memory.pageFails s.cfg.pageCapacity s.mem a = false) (v : Word) (k : State → Result) :
    memWrite a n v s k = k ((s.setMem (s.mem.write a n v)).emit (.memWrite a n v)) := by
  simp [memWrite, h, hp]

/-- Everything a write can do. -/
theorem memWrite_cases (a : Word) (n : Width) (v : Word) (s : State) (k : State → Result) :
    (∃ e, memWrite a n v s k = .next (s.faulted e)) ∨
      (accessError a n = none ∧ Memory.pageFails s.cfg.pageCapacity s.mem a = false ∧
        memWrite a n v s k = k ((s.setMem (s.mem.write a n v)).emit (.memWrite a n v))) := by
  cases h : accessError a n with
  | some e => exact .inl ⟨e, by simp only [memWrite, h, raise_eq]⟩
  | none =>
    cases hp : Memory.pageFails s.cfg.pageCapacity s.mem a with
    | true => exact .inl ⟨.pageAllocFailure a n, by simp [memWrite, h, hp]⟩
    | false => exact .inr ⟨rfl, rfl, memWrite_ok h hp v k⟩

/-- Everything a GETC can do (R274). -/
theorem execGetc_cases (x : RegIdx) (s : State) :
    (s.dev.input = [] ∧ execGetc x s = .next (s.setStatus .blocked)) ∨
      (∃ c rest, s.dev.input = c :: rest ∧
        execGetc x s = .next (((s.setDev { s.dev with input := rest }).writeReg x (zeroExt c)).setStatus .running)) := by
  cases h : s.dev.input with
  | nil => exact .inl ⟨rfl, by simp [execGetc, deviceHasNextChar, h]⟩
  | cons c rest => exact .inr ⟨c, rest, rfl, by simp [execGetc, deviceHasNextChar, deviceGetc, h]⟩

/-- The end of a step that goes on (R117). -/
theorem endStep_running {s : State} (h : s.status = .running) : s.endStep = s.incrementIP.preview s.incrementIP.pc := by
  simp only [State.endStep, h]

/-- The end of a step that blocks (R116). -/
theorem endStep_blocked {s : State} (h : s.status = .blocked) : s.endStep = s.emit .block := by
  simp only [State.endStep, h]

/-- The end of a step that halts (R115, R305). -/
theorem endStep_halted {s : State} (h : s.status = .halted) :
    s.endStep = if s.lastError = none then s.emit (.halt s.exitCode none) else s := by
  simp only [State.endStep, h]

/-- A step in HALTED (R118). -/
theorem step_halted {s : State} (h : s.status = .halted) : step s = .next s := by
  simp only [step, h]

/-- A step that is not in HALTED fetches, decodes and executes (R119, R123). -/
theorem step_not_halted {s : State} (h : s.status ≠ .halted) :
    step s = fetch s fun w s =>
      match decodeWord s.cfg.opmap w with
      | .ok i => finishStep (exec i s)
      | .error _ => illegalOpcode w s := by
  unfold step
  split
  · exact absurd ‹s.status = .halted› h
  · rfl
  · rfl

end Sys2Proof.Laws
end

