-- ==== Sys2Proof/Laws/PerInstr.lean ====
section
/-!
SUPPORT. The family AssembleField: an instruction whose immediates fit is what its kind assembles from the operand decoder's
reading of its encoded field (R82, R87), one lemma per constructor.
-/

namespace Sys2Proof.Laws.AssembleField

open Sys2Proof

/-- No operand bit of the instruction is lost in its operand field. -/
def Statement (i : Instr) : Prop :=
  i.immediatesFit = true → i.kind.assemble (decodeOperands i.field) = i

theorem congr_one {α δ : Type} (f : α → δ) {a a' : α} (h : a = a') : f a = f a' := congrArg f h

theorem congr_two {α β δ : Type} (f : α → β → δ) {a a' : α} {b b' : β} (h : a = a') (k : b = b') : f a b = f a' b' := by
  rw [h, k]

theorem congr_three {α β γ δ : Type} (f : α → β → γ → δ) {a a' : α} {b b' : β} {c c' : γ} (h : a = a') (k : b = b')
    (l : c = c') : f a b c = f a' b' c' := by
  rw [h, k, l]

theorem uX_pack {u : Word} {y z : Byte} (h : fitsU 8 u = true) : (decodeOperands (packBytes (imm8 u) y z)).uX = u :=
  (congrArg zeroExt (byteX_packBytes _ _ _)).trans (zeroExt_imm8 h)

theorem sX_pack {v : Word} {y z : Byte} (h : fitsS 8 v = true) : (decodeOperands (packBytes (imm8 v) y z)).sX = v :=
  (congrArg signExt (byteX_packBytes _ _ _)).trans (signExt_imm8 h)

theorem sY_pack {v : Word} {x z : Byte} (h : fitsS 8 v = true) : (decodeOperands (packBytes x (imm8 v) z)).sY = v :=
  (congrArg signExt (byteY_packBytes _ _ _)).trans (signExt_imm8 h)

theorem uXY_pack {u : Word} {z : Byte} (h : fitsU 16 u = true) : (decodeOperands (packHalf (imm16 u) z)).uXY = u :=
  (congrArg zeroExt (halfXY_packHalf _ _)).trans (zeroExt_imm16 h)

theorem sXY_pack {v : Word} {z : Byte} (h : fitsS 16 v = true) : (decodeOperands (packHalf (imm16 v) z)).sXY = v :=
  (congrArg signExt (halfXY_packHalf _ _)).trans (signExt_imm16 h)

theorem haltR (x : RegIdx) : Statement (.haltR x) := fun _ => congr_one Instr.haltR (byteX_packBytes _ _ _)

theorem haltI (u : Word) : Statement (.haltI u) := fun h => congr_one Instr.haltI (uX_pack h)

theorem nop : Statement .nop := fun _ => rfl

theorem addRR (x y z : RegIdx) : Statement (.addRR x y z) := fun _ => congr_three Instr.addRR (byteX_packBytes _ _ _) (byteY_packBytes _ _ _) (byteZ_packBytes _ _ _)

theorem addIR (u : Word) (y z : RegIdx) : Statement (.addIR u y z) := fun h => congr_three Instr.addIR (uX_pack h) (byteY_packBytes _ _ _) (byteZ_packBytes _ _ _)

theorem subRR (x y z : RegIdx) : Statement (.subRR x y z) := fun _ => congr_three Instr.subRR (byteX_packBytes _ _ _) (byteY_packBytes _ _ _) (byteZ_packBytes _ _ _)

theorem subIR (u : Word) (y z : RegIdx) : Statement (.subIR u y z) := fun h => congr_three Instr.subIR (uX_pack h) (byteY_packBytes _ _ _) (byteZ_packBytes _ _ _)

theorem mulRR (x y z : RegIdx) : Statement (.mulRR x y z) := fun _ => congr_three Instr.mulRR (byteX_packBytes _ _ _) (byteY_packBytes _ _ _) (byteZ_packBytes _ _ _)

theorem mulRI (x : RegIdx) (v : Word) (z : RegIdx) : Statement (.mulRI x v z) := fun h => congr_three Instr.mulRI (byteX_packBytes _ _ _) (sY_pack h) (byteZ_packBytes _ _ _)

theorem divuRR (x y z : RegIdx) : Statement (.divuRR x y z) := fun _ => congr_three Instr.divuRR (byteX_packBytes _ _ _) (byteY_packBytes _ _ _) (byteZ_packBytes _ _ _)

theorem divuIR (u : Word) (y z : RegIdx) : Statement (.divuIR u y z) := fun h => congr_three Instr.divuIR (uX_pack h) (byteY_packBytes _ _ _) (byteZ_packBytes _ _ _)

theorem idivRR (x y z : RegIdx) : Statement (.idivRR x y z) := fun _ => congr_three Instr.idivRR (byteX_packBytes _ _ _) (byteY_packBytes _ _ _) (byteZ_packBytes _ _ _)

theorem idivIR (v : Word) (y z : RegIdx) : Statement (.idivIR v y z) := fun h => congr_three Instr.idivIR (sX_pack h) (byteY_packBytes _ _ _) (byteZ_packBytes _ _ _)

theorem andRR (x y z : RegIdx) : Statement (.andRR x y z) := fun _ => congr_three Instr.andRR (byteX_packBytes _ _ _) (byteY_packBytes _ _ _) (byteZ_packBytes _ _ _)

theorem orRR (x y z : RegIdx) : Statement (.orRR x y z) := fun _ => congr_three Instr.orRR (byteX_packBytes _ _ _) (byteY_packBytes _ _ _) (byteZ_packBytes _ _ _)

theorem notRR (x y : RegIdx) : Statement (.notRR x y) := fun _ => congr_two Instr.notRR (byteX_packBytes _ _ _) (byteY_packBytes _ _ _)

theorem ldiu (u : Word) (z : RegIdx) : Statement (.ldiu u z) := fun h => congr_two Instr.ldiu (uXY_pack h) (byteZ_packHalf _ _)

theorem ldis (v : Word) (z : RegIdx) : Statement (.ldis v z) := fun h => congr_two Instr.ldis (sXY_pack h) (byteZ_packHalf _ _)

theorem shldi (u : Word) (z : RegIdx) : Statement (.shldi u z) := fun h => congr_two Instr.shldi (uXY_pack h) (byteZ_packHalf _ _)

theorem shlRR (x y z : RegIdx) : Statement (.shlRR x y z) := fun _ => congr_three Instr.shlRR (byteX_packBytes _ _ _) (byteY_packBytes _ _ _) (byteZ_packBytes _ _ _)

theorem shlIR (u : Word) (y z : RegIdx) : Statement (.shlIR u y z) := fun h => congr_three Instr.shlIR (uX_pack h) (byteY_packBytes _ _ _) (byteZ_packBytes _ _ _)

theorem shrRR (x y z : RegIdx) : Statement (.shrRR x y z) := fun _ => congr_three Instr.shrRR (byteX_packBytes _ _ _) (byteY_packBytes _ _ _) (byteZ_packBytes _ _ _)

theorem shrIR (u : Word) (y z : RegIdx) : Statement (.shrIR u y z) := fun h => congr_three Instr.shrIR (uX_pack h) (byteY_packBytes _ _ _) (byteZ_packBytes _ _ _)

theorem sarRR (x y z : RegIdx) : Statement (.sarRR x y z) := fun _ => congr_three Instr.sarRR (byteX_packBytes _ _ _) (byteY_packBytes _ _ _) (byteZ_packBytes _ _ _)

theorem sarIR (u : Word) (y z : RegIdx) : Statement (.sarIR u y z) := fun h => congr_three Instr.sarIR (uX_pack h) (byteY_packBytes _ _ _) (byteZ_packBytes _ _ _)

theorem getc (x : RegIdx) : Statement (.getc x) := fun _ => congr_one Instr.getc (byteX_packBytes _ _ _)

theorem putcR (x : RegIdx) : Statement (.putcR x) := fun _ => congr_one Instr.putcR (byteX_packBytes _ _ _)

theorem putcI (u : Word) : Statement (.putcI u) := fun h => congr_one Instr.putcI (uX_pack h)

theorem jmpAbs (x y : RegIdx) : Statement (.jmpAbs x y) := fun _ => congr_two Instr.jmpAbs (byteX_packBytes _ _ _) (byteY_packBytes _ _ _)

theorem jmp (v : Word) : Statement (.jmp v) := fun h => congr_one Instr.jmp (signExt_imm24 h)

theorem ja (v : Word) : Statement (.ja v) := fun h => congr_one Instr.ja (signExt_imm24 h)

theorem jbe (v : Word) : Statement (.jbe v) := fun h => congr_one Instr.jbe (signExt_imm24 h)

theorem jae (v : Word) : Statement (.jae v) := fun h => congr_one Instr.jae (signExt_imm24 h)

theorem jb (v : Word) : Statement (.jb v) := fun h => congr_one Instr.jb (signExt_imm24 h)

theorem jg (v : Word) : Statement (.jg v) := fun h => congr_one Instr.jg (signExt_imm24 h)

theorem jle (v : Word) : Statement (.jle v) := fun h => congr_one Instr.jle (signExt_imm24 h)

theorem jge (v : Word) : Statement (.jge v) := fun h => congr_one Instr.jge (signExt_imm24 h)

theorem jl (v : Word) : Statement (.jl v) := fun h => congr_one Instr.jl (signExt_imm24 h)

theorem jz (v : Word) : Statement (.jz v) := fun h => congr_one Instr.jz (signExt_imm24 h)

theorem jnz (v : Word) : Statement (.jnz v) := fun h => congr_one Instr.jnz (signExt_imm24 h)

theorem ldu1D (d : Word) (y z : RegIdx) : Statement (.ldu1D d y z) := fun h => congr_three Instr.ldu1D (sX_pack h) (byteY_packBytes _ _ _) (byteZ_packBytes _ _ _)

theorem ldu2D (d : Word) (y z : RegIdx) : Statement (.ldu2D d y z) := fun h => congr_three Instr.ldu2D (sX_pack h) (byteY_packBytes _ _ _) (byteZ_packBytes _ _ _)

theorem ldu4D (d : Word) (y z : RegIdx) : Statement (.ldu4D d y z) := fun h => congr_three Instr.ldu4D (sX_pack h) (byteY_packBytes _ _ _) (byteZ_packBytes _ _ _)

theorem ld8D (d : Word) (y z : RegIdx) : Statement (.ld8D d y z) := fun h => congr_three Instr.ld8D (sX_pack h) (byteY_packBytes _ _ _) (byteZ_packBytes _ _ _)

theorem lds1D (d : Word) (y z : RegIdx) : Statement (.lds1D d y z) := fun h => congr_three Instr.lds1D (sX_pack h) (byteY_packBytes _ _ _) (byteZ_packBytes _ _ _)

theorem lds2D (d : Word) (y z : RegIdx) : Statement (.lds2D d y z) := fun h => congr_three Instr.lds2D (sX_pack h) (byteY_packBytes _ _ _) (byteZ_packBytes _ _ _)

theorem lds4D (d : Word) (y z : RegIdx) : Statement (.lds4D d y z) := fun h => congr_three Instr.lds4D (sX_pack h) (byteY_packBytes _ _ _) (byteZ_packBytes _ _ _)

theorem st1D (d : Word) (y z : RegIdx) : Statement (.st1D d y z) := fun h => congr_three Instr.st1D (sX_pack h) (byteY_packBytes _ _ _) (byteZ_packBytes _ _ _)

theorem st2D (d : Word) (y z : RegIdx) : Statement (.st2D d y z) := fun h => congr_three Instr.st2D (sX_pack h) (byteY_packBytes _ _ _) (byteZ_packBytes _ _ _)

theorem st4D (d : Word) (y z : RegIdx) : Statement (.st4D d y z) := fun h => congr_three Instr.st4D (sX_pack h) (byteY_packBytes _ _ _) (byteZ_packBytes _ _ _)

theorem st8D (d : Word) (y z : RegIdx) : Statement (.st8D d y z) := fun h => congr_three Instr.st8D (sX_pack h) (byteY_packBytes _ _ _) (byteZ_packBytes _ _ _)

theorem ldu1S1 (x y z : RegIdx) : Statement (.ldu1S1 x y z) := fun _ => congr_three Instr.ldu1S1 (byteX_packBytes _ _ _) (byteY_packBytes _ _ _) (byteZ_packBytes _ _ _)

theorem ldu2S1 (x y z : RegIdx) : Statement (.ldu2S1 x y z) := fun _ => congr_three Instr.ldu2S1 (byteX_packBytes _ _ _) (byteY_packBytes _ _ _) (byteZ_packBytes _ _ _)

theorem ldu4S1 (x y z : RegIdx) : Statement (.ldu4S1 x y z) := fun _ => congr_three Instr.ldu4S1 (byteX_packBytes _ _ _) (byteY_packBytes _ _ _) (byteZ_packBytes _ _ _)

theorem ld8S1 (x y z : RegIdx) : Statement (.ld8S1 x y z) := fun _ => congr_three Instr.ld8S1 (byteX_packBytes _ _ _) (byteY_packBytes _ _ _) (byteZ_packBytes _ _ _)

theorem lds1S1 (x y z : RegIdx) : Statement (.lds1S1 x y z) := fun _ => congr_three Instr.lds1S1 (byteX_packBytes _ _ _) (byteY_packBytes _ _ _) (byteZ_packBytes _ _ _)

theorem lds2S1 (x y z : RegIdx) : Statement (.lds2S1 x y z) := fun _ => congr_three Instr.lds2S1 (byteX_packBytes _ _ _) (byteY_packBytes _ _ _) (byteZ_packBytes _ _ _)

theorem lds4S1 (x y z : RegIdx) : Statement (.lds4S1 x y z) := fun _ => congr_three Instr.lds4S1 (byteX_packBytes _ _ _) (byteY_packBytes _ _ _) (byteZ_packBytes _ _ _)

theorem st1S1 (x y z : RegIdx) : Statement (.st1S1 x y z) := fun _ => congr_three Instr.st1S1 (byteX_packBytes _ _ _) (byteY_packBytes _ _ _) (byteZ_packBytes _ _ _)

theorem st2S1 (x y z : RegIdx) : Statement (.st2S1 x y z) := fun _ => congr_three Instr.st2S1 (byteX_packBytes _ _ _) (byteY_packBytes _ _ _) (byteZ_packBytes _ _ _)

theorem st4S1 (x y z : RegIdx) : Statement (.st4S1 x y z) := fun _ => congr_three Instr.st4S1 (byteX_packBytes _ _ _) (byteY_packBytes _ _ _) (byteZ_packBytes _ _ _)

theorem st8S1 (x y z : RegIdx) : Statement (.st8S1 x y z) := fun _ => congr_three Instr.st8S1 (byteX_packBytes _ _ _) (byteY_packBytes _ _ _) (byteZ_packBytes _ _ _)

theorem ldu1S2 (x y z : RegIdx) : Statement (.ldu1S2 x y z) := fun _ => congr_three Instr.ldu1S2 (byteX_packBytes _ _ _) (byteY_packBytes _ _ _) (byteZ_packBytes _ _ _)

theorem ldu2S2 (x y z : RegIdx) : Statement (.ldu2S2 x y z) := fun _ => congr_three Instr.ldu2S2 (byteX_packBytes _ _ _) (byteY_packBytes _ _ _) (byteZ_packBytes _ _ _)

theorem ldu4S2 (x y z : RegIdx) : Statement (.ldu4S2 x y z) := fun _ => congr_three Instr.ldu4S2 (byteX_packBytes _ _ _) (byteY_packBytes _ _ _) (byteZ_packBytes _ _ _)

theorem ld8S2 (x y z : RegIdx) : Statement (.ld8S2 x y z) := fun _ => congr_three Instr.ld8S2 (byteX_packBytes _ _ _) (byteY_packBytes _ _ _) (byteZ_packBytes _ _ _)

theorem lds1S2 (x y z : RegIdx) : Statement (.lds1S2 x y z) := fun _ => congr_three Instr.lds1S2 (byteX_packBytes _ _ _) (byteY_packBytes _ _ _) (byteZ_packBytes _ _ _)

theorem lds2S2 (x y z : RegIdx) : Statement (.lds2S2 x y z) := fun _ => congr_three Instr.lds2S2 (byteX_packBytes _ _ _) (byteY_packBytes _ _ _) (byteZ_packBytes _ _ _)

theorem lds4S2 (x y z : RegIdx) : Statement (.lds4S2 x y z) := fun _ => congr_three Instr.lds4S2 (byteX_packBytes _ _ _) (byteY_packBytes _ _ _) (byteZ_packBytes _ _ _)

theorem st1S2 (x y z : RegIdx) : Statement (.st1S2 x y z) := fun _ => congr_three Instr.st1S2 (byteX_packBytes _ _ _) (byteY_packBytes _ _ _) (byteZ_packBytes _ _ _)

theorem st2S2 (x y z : RegIdx) : Statement (.st2S2 x y z) := fun _ => congr_three Instr.st2S2 (byteX_packBytes _ _ _) (byteY_packBytes _ _ _) (byteZ_packBytes _ _ _)

theorem st4S2 (x y z : RegIdx) : Statement (.st4S2 x y z) := fun _ => congr_three Instr.st4S2 (byteX_packBytes _ _ _) (byteY_packBytes _ _ _) (byteZ_packBytes _ _ _)

theorem st8S2 (x y z : RegIdx) : Statement (.st8S2 x y z) := fun _ => congr_three Instr.st8S2 (byteX_packBytes _ _ _) (byteY_packBytes _ _ _) (byteZ_packBytes _ _ _)

theorem ldu1S4 (x y z : RegIdx) : Statement (.ldu1S4 x y z) := fun _ => congr_three Instr.ldu1S4 (byteX_packBytes _ _ _) (byteY_packBytes _ _ _) (byteZ_packBytes _ _ _)

theorem ldu2S4 (x y z : RegIdx) : Statement (.ldu2S4 x y z) := fun _ => congr_three Instr.ldu2S4 (byteX_packBytes _ _ _) (byteY_packBytes _ _ _) (byteZ_packBytes _ _ _)

theorem ldu4S4 (x y z : RegIdx) : Statement (.ldu4S4 x y z) := fun _ => congr_three Instr.ldu4S4 (byteX_packBytes _ _ _) (byteY_packBytes _ _ _) (byteZ_packBytes _ _ _)

theorem ld8S4 (x y z : RegIdx) : Statement (.ld8S4 x y z) := fun _ => congr_three Instr.ld8S4 (byteX_packBytes _ _ _) (byteY_packBytes _ _ _) (byteZ_packBytes _ _ _)

theorem lds1S4 (x y z : RegIdx) : Statement (.lds1S4 x y z) := fun _ => congr_three Instr.lds1S4 (byteX_packBytes _ _ _) (byteY_packBytes _ _ _) (byteZ_packBytes _ _ _)

theorem lds2S4 (x y z : RegIdx) : Statement (.lds2S4 x y z) := fun _ => congr_three Instr.lds2S4 (byteX_packBytes _ _ _) (byteY_packBytes _ _ _) (byteZ_packBytes _ _ _)

theorem lds4S4 (x y z : RegIdx) : Statement (.lds4S4 x y z) := fun _ => congr_three Instr.lds4S4 (byteX_packBytes _ _ _) (byteY_packBytes _ _ _) (byteZ_packBytes _ _ _)

theorem st1S4 (x y z : RegIdx) : Statement (.st1S4 x y z) := fun _ => congr_three Instr.st1S4 (byteX_packBytes _ _ _) (byteY_packBytes _ _ _) (byteZ_packBytes _ _ _)

theorem st2S4 (x y z : RegIdx) : Statement (.st2S4 x y z) := fun _ => congr_three Instr.st2S4 (byteX_packBytes _ _ _) (byteY_packBytes _ _ _) (byteZ_packBytes _ _ _)

theorem st4S4 (x y z : RegIdx) : Statement (.st4S4 x y z) := fun _ => congr_three Instr.st4S4 (byteX_packBytes _ _ _) (byteY_packBytes _ _ _) (byteZ_packBytes _ _ _)

theorem st8S4 (x y z : RegIdx) : Statement (.st8S4 x y z) := fun _ => congr_three Instr.st8S4 (byteX_packBytes _ _ _) (byteY_packBytes _ _ _) (byteZ_packBytes _ _ _)

theorem ldu1S8 (x y z : RegIdx) : Statement (.ldu1S8 x y z) := fun _ => congr_three Instr.ldu1S8 (byteX_packBytes _ _ _) (byteY_packBytes _ _ _) (byteZ_packBytes _ _ _)

theorem ldu2S8 (x y z : RegIdx) : Statement (.ldu2S8 x y z) := fun _ => congr_three Instr.ldu2S8 (byteX_packBytes _ _ _) (byteY_packBytes _ _ _) (byteZ_packBytes _ _ _)

theorem ldu4S8 (x y z : RegIdx) : Statement (.ldu4S8 x y z) := fun _ => congr_three Instr.ldu4S8 (byteX_packBytes _ _ _) (byteY_packBytes _ _ _) (byteZ_packBytes _ _ _)

theorem ld8S8 (x y z : RegIdx) : Statement (.ld8S8 x y z) := fun _ => congr_three Instr.ld8S8 (byteX_packBytes _ _ _) (byteY_packBytes _ _ _) (byteZ_packBytes _ _ _)

theorem lds1S8 (x y z : RegIdx) : Statement (.lds1S8 x y z) := fun _ => congr_three Instr.lds1S8 (byteX_packBytes _ _ _) (byteY_packBytes _ _ _) (byteZ_packBytes _ _ _)

theorem lds2S8 (x y z : RegIdx) : Statement (.lds2S8 x y z) := fun _ => congr_three Instr.lds2S8 (byteX_packBytes _ _ _) (byteY_packBytes _ _ _) (byteZ_packBytes _ _ _)

theorem lds4S8 (x y z : RegIdx) : Statement (.lds4S8 x y z) := fun _ => congr_three Instr.lds4S8 (byteX_packBytes _ _ _) (byteY_packBytes _ _ _) (byteZ_packBytes _ _ _)

theorem st1S8 (x y z : RegIdx) : Statement (.st1S8 x y z) := fun _ => congr_three Instr.st1S8 (byteX_packBytes _ _ _) (byteY_packBytes _ _ _) (byteZ_packBytes _ _ _)

theorem st2S8 (x y z : RegIdx) : Statement (.st2S8 x y z) := fun _ => congr_three Instr.st2S8 (byteX_packBytes _ _ _) (byteY_packBytes _ _ _) (byteZ_packBytes _ _ _)

theorem st4S8 (x y z : RegIdx) : Statement (.st4S8 x y z) := fun _ => congr_three Instr.st4S8 (byteX_packBytes _ _ _) (byteY_packBytes _ _ _) (byteZ_packBytes _ _ _)

theorem st8S8 (x y z : RegIdx) : Statement (.st8S8 x y z) := fun _ => congr_three Instr.st8S8 (byteX_packBytes _ _ _) (byteY_packBytes _ _ _) (byteZ_packBytes _ _ _)

end Sys2Proof.Laws.AssembleField
end

