-- ==== Sys2Proof/Tests/Slice0.lean ====
section
/-!
SUPPORT. The model's own tests: ill-formed terms that WellFormed refuses; for every constructor a word written out from its
encoding (30_encoding.md R87, R90) and the instruction it decodes to; single steps whose expected results are those of
95_test_vectors.md (DV, TV, V) and of the worked examples of 44_memory_access.md; and for every statement with hypotheses a
state and operands that meet them.
-/

-- One theorem after another: very many small theorems at once need more threads than the memory limit leaves.
set_option Elab.async false

namespace Sys2Proof.Tests

open Sys2Proof Sys2Proof.Machine Sys2Proof.Claims

/-- The state a step answers; the state after reset stands for a stop, which no step answers. -/
def nextOf : Result → State
  | .next s => s
  | .fault _ => State.reset
  | .refused _ => State.reset

/-- The state after one step. -/
def after (s : State) : State := nextOf (step s)

/-- Some registers set. -/
def withRegs (s : State) : List (RegIdx × Word) → State
  | [] => s
  | (i, v) :: l => withRegs (s.setReg i v) l

/-- The start state of the vectors: the word at pc = 0x100, some registers set, everything else as after reset. -/
def vec (w : InstrWord) (regs : List (RegIdx × Word)) : State :=
  withRegs { State.reset with pc := 0x100, mem := State.reset.mem.write 0x100 .b4 (w.setWidth 64) } regs

/-- The start state of the memory vectors: the bytes 80 01 02 03 F4 05 06 07 from 0x1000 on as well. -/
def memVec (w : InstrWord) (regs : List (RegIdx × Word)) : State :=
  { vec w regs with mem := (vec w regs).mem.write 0x1000 .b8 0x80010203F4050607 }

/-! ### WellFormed refuses ill-formed terms (R82, R85) -/

theorem test_wf_uX_too_big : WellFormed refOpmap (.addIR 256 1 2) = false := by decide

theorem test_wf_sX_too_big : WellFormed refOpmap (.ldu1D 128 1 2) = false := by decide

theorem test_wf_sX_too_small : WellFormed refOpmap (.idivIR (-129) 1 2) = false := by decide

theorem test_wf_sY_too_big : WellFormed refOpmap (.mulRI 1 128 2) = false := by decide

theorem test_wf_uXY_too_big : WellFormed refOpmap (.ldiu 65536 1) = false := by decide

theorem test_wf_sXY_too_small : WellFormed refOpmap (.ldis (-32769) 1) = false := by decide

theorem test_wf_sXYZ_too_big : WellFormed refOpmap (.jmp 8388608) = false := by decide

theorem test_wf_kind_not_mapped : WellFormed [(0x03, .nop)] (.getc 1) = false := by decide

theorem test_wf_extremes : WellFormed refOpmap (.addIR 255 1 2) = true ∧ WellFormed refOpmap (.ldu1D (-128) 1 2) = true
    ∧ WellFormed refOpmap (.mulRI 1 127 2) = true ∧ WellFormed refOpmap (.ldis (-32768) 1) = true
    ∧ WellFormed refOpmap (.jmp (-8388608)) = true := by decide

theorem test_map_without_a_required_kind : OpMap.conforming (refOpmap.filter (fun e => e.2 != .nop)) = false := by
  decide +kernel

theorem test_map_without_a_logical_shift :
    OpMap.conforming (refOpmap.filter (fun e => e.2 != .shrRR && e.2 != .shrIR)) = false := by decide +kernel

theorem test_map_without_an_arithmetic_shift :
    OpMap.conforming (refOpmap.filter (fun e => e.2 != .sarRR && e.2 != .sarIR)) = false := by decide +kernel

theorem test_map_with_an_opcode_twice : OpMap.conforming ((0x03, .getc) :: refOpmap) = false := by decide +kernel

theorem test_map_without_optional_kinds :
    OpMap.conforming (refOpmap.filter (fun e => e.2 != .shrRR && e.2 != .sarIR && e.2 != .idivIR)) = true := by
  decide +kernel

theorem test_word_too_short : decode refOpmap [0x03, 0, 0] = .error (.truncated 3) := by decide

theorem test_operand_value_too_wide : decodeOperandsOf 0x1000000 = .error (.invalidField 0x1000000) := by decide

/-! ### Decoding: a written-out word of every kind -/

theorem test_decode_halt_nop :
    decodeTableWord 32 0x01050000 = some (.haltR 5#8)
    ∧ decodeTableWord 32 0x02FF0000 = some (.haltI 255#64)
    ∧ decodeTableWord 32 0x03000000 = some (.nop) := by decide +kernel

theorem test_decode_arithmetic :
    decodeTableWord 32 0x10010203 = some (.addRR 1#8 2#8 3#8)
    ∧ decodeTableWord 32 0x11FF0203 = some (.addIR 255#64 2#8 3#8)
    ∧ decodeTableWord 32 0x12010203 = some (.subRR 1#8 2#8 3#8)
    ∧ decodeTableWord 32 0x13FF0203 = some (.subIR 255#64 2#8 3#8)
    ∧ decodeTableWord 32 0x14010203 = some (.mulRR 1#8 2#8 3#8)
    ∧ decodeTableWord 32 0x1501FD03 = some (.mulRI 1#8 (-3#64) 3#8)
    ∧ decodeTableWord 32 0x16010203 = some (.divuRR 1#8 2#8 3#8)
    ∧ decodeTableWord 32 0x17FF0203 = some (.divuIR 255#64 2#8 3#8)
    ∧ decodeTableWord 32 0x18010203 = some (.idivRR 1#8 2#8 3#8)
    ∧ decodeTableWord 32 0x19800203 = some (.idivIR (-128#64) 2#8 3#8) := by decide +kernel

theorem test_decode_logic :
    decodeTableWord 32 0x20010203 = some (.andRR 1#8 2#8 3#8)
    ∧ decodeTableWord 32 0x21010203 = some (.orRR 1#8 2#8 3#8)
    ∧ decodeTableWord 32 0x22050600 = some (.notRR 5#8 6#8) := by decide +kernel

theorem test_decode_load_shift :
    decodeTableWord 32 0x28ABCD01 = some (.ldiu 0xABCD#64 1#8)
    ∧ decodeTableWord 32 0x29800001 = some (.ldis (-32768#64) 1#8)
    ∧ decodeTableWord 32 0x2AABCD01 = some (.shldi 0xABCD#64 1#8)
    ∧ decodeTableWord 32 0x2B010203 = some (.shlRR 1#8 2#8 3#8)
    ∧ decodeTableWord 32 0x2CFF0203 = some (.shlIR 255#64 2#8 3#8)
    ∧ decodeTableWord 32 0x2D010203 = some (.shrRR 1#8 2#8 3#8)
    ∧ decodeTableWord 32 0x2EFF0203 = some (.shrIR 255#64 2#8 3#8)
    ∧ decodeTableWord 32 0x2F010203 = some (.sarRR 1#8 2#8 3#8)
    ∧ decodeTableWord 32 0x30FF0203 = some (.sarIR 255#64 2#8 3#8) := by decide +kernel

theorem test_decode_io :
    decodeTableWord 32 0x38050000 = some (.getc 5#8)
    ∧ decodeTableWord 32 0x39050000 = some (.putcR 5#8)
    ∧ decodeTableWord 32 0x3AFF0000 = some (.putcI 255#64) := by decide +kernel

theorem test_decode_control_transfer :
    decodeTableWord 32 0x40050600 = some (.jmpAbs 5#8 6#8)
    ∧ decodeTableWord 32 0x41FFFFFB = some (.jmp (-5#64))
    ∧ decodeTableWord 32 0x42FFFFFB = some (.ja (-5#64))
    ∧ decodeTableWord 32 0x43FFFFFB = some (.jbe (-5#64))
    ∧ decodeTableWord 32 0x44FFFFFB = some (.jae (-5#64))
    ∧ decodeTableWord 32 0x45FFFFFB = some (.jb (-5#64))
    ∧ decodeTableWord 32 0x46FFFFFB = some (.jg (-5#64))
    ∧ decodeTableWord 32 0x47FFFFFB = some (.jle (-5#64))
    ∧ decodeTableWord 32 0x48FFFFFB = some (.jge (-5#64))
    ∧ decodeTableWord 32 0x49FFFFFB = some (.jl (-5#64))
    ∧ decodeTableWord 32 0x4AFFFFFB = some (.jz (-5#64))
    ∧ decodeTableWord 32 0x4BFFFFFB = some (.jnz (-5#64)) := by decide +kernel

theorem test_decode_displacement :
    decodeTableWord 32 0x80F80203 = some (.ldu1D (-8#64) 2#8 3#8)
    ∧ decodeTableWord 32 0x81F80203 = some (.ldu2D (-8#64) 2#8 3#8)
    ∧ decodeTableWord 32 0x82F80203 = some (.ldu4D (-8#64) 2#8 3#8)
    ∧ decodeTableWord 32 0x83F80203 = some (.ld8D (-8#64) 2#8 3#8)
    ∧ decodeTableWord 32 0x84F80203 = some (.lds1D (-8#64) 2#8 3#8)
    ∧ decodeTableWord 32 0x85F80203 = some (.lds2D (-8#64) 2#8 3#8)
    ∧ decodeTableWord 32 0x86F80203 = some (.lds4D (-8#64) 2#8 3#8)
    ∧ decodeTableWord 32 0x87F80203 = some (.st1D (-8#64) 2#8 3#8)
    ∧ decodeTableWord 32 0x88F80203 = some (.st2D (-8#64) 2#8 3#8)
    ∧ decodeTableWord 32 0x89F80203 = some (.st4D (-8#64) 2#8 3#8)
    ∧ decodeTableWord 32 0x8AF80203 = some (.st8D (-8#64) 2#8 3#8) := by decide +kernel

theorem test_decode_scale1 :
    decodeTableWord 32 0x8B010203 = some (.ldu1S1 1#8 2#8 3#8)
    ∧ decodeTableWord 32 0x8C010203 = some (.ldu2S1 1#8 2#8 3#8)
    ∧ decodeTableWord 32 0x8D010203 = some (.ldu4S1 1#8 2#8 3#8)
    ∧ decodeTableWord 32 0x8E010203 = some (.ld8S1 1#8 2#8 3#8)
    ∧ decodeTableWord 32 0x8F010203 = some (.lds1S1 1#8 2#8 3#8)
    ∧ decodeTableWord 32 0x90010203 = some (.lds2S1 1#8 2#8 3#8)
    ∧ decodeTableWord 32 0x91010203 = some (.lds4S1 1#8 2#8 3#8)
    ∧ decodeTableWord 32 0x92010203 = some (.st1S1 1#8 2#8 3#8)
    ∧ decodeTableWord 32 0x93010203 = some (.st2S1 1#8 2#8 3#8)
    ∧ decodeTableWord 32 0x94010203 = some (.st4S1 1#8 2#8 3#8)
    ∧ decodeTableWord 32 0x95010203 = some (.st8S1 1#8 2#8 3#8) := by decide +kernel

theorem test_decode_scale2 :
    decodeTableWord 32 0x96010203 = some (.ldu1S2 1#8 2#8 3#8)
    ∧ decodeTableWord 32 0x97010203 = some (.ldu2S2 1#8 2#8 3#8)
    ∧ decodeTableWord 32 0x98010203 = some (.ldu4S2 1#8 2#8 3#8)
    ∧ decodeTableWord 32 0x99010203 = some (.ld8S2 1#8 2#8 3#8)
    ∧ decodeTableWord 32 0x9A010203 = some (.lds1S2 1#8 2#8 3#8)
    ∧ decodeTableWord 32 0x9B010203 = some (.lds2S2 1#8 2#8 3#8)
    ∧ decodeTableWord 32 0x9C010203 = some (.lds4S2 1#8 2#8 3#8)
    ∧ decodeTableWord 32 0x9D010203 = some (.st1S2 1#8 2#8 3#8)
    ∧ decodeTableWord 32 0x9E010203 = some (.st2S2 1#8 2#8 3#8)
    ∧ decodeTableWord 32 0x9F010203 = some (.st4S2 1#8 2#8 3#8)
    ∧ decodeTableWord 32 0xA0010203 = some (.st8S2 1#8 2#8 3#8) := by decide +kernel

theorem test_decode_scale4 :
    decodeTableWord 32 0xA1010203 = some (.ldu1S4 1#8 2#8 3#8)
    ∧ decodeTableWord 32 0xA2010203 = some (.ldu2S4 1#8 2#8 3#8)
    ∧ decodeTableWord 32 0xA3010203 = some (.ldu4S4 1#8 2#8 3#8)
    ∧ decodeTableWord 32 0xA4010203 = some (.ld8S4 1#8 2#8 3#8)
    ∧ decodeTableWord 32 0xA5010203 = some (.lds1S4 1#8 2#8 3#8)
    ∧ decodeTableWord 32 0xA6010203 = some (.lds2S4 1#8 2#8 3#8)
    ∧ decodeTableWord 32 0xA7010203 = some (.lds4S4 1#8 2#8 3#8)
    ∧ decodeTableWord 32 0xA8010203 = some (.st1S4 1#8 2#8 3#8)
    ∧ decodeTableWord 32 0xA9010203 = some (.st2S4 1#8 2#8 3#8)
    ∧ decodeTableWord 32 0xAA010203 = some (.st4S4 1#8 2#8 3#8)
    ∧ decodeTableWord 32 0xAB010203 = some (.st8S4 1#8 2#8 3#8) := by decide +kernel

theorem test_decode_scale8 :
    decodeTableWord 32 0xAC010203 = some (.ldu1S8 1#8 2#8 3#8)
    ∧ decodeTableWord 32 0xAD010203 = some (.ldu2S8 1#8 2#8 3#8)
    ∧ decodeTableWord 32 0xAE010203 = some (.ldu4S8 1#8 2#8 3#8)
    ∧ decodeTableWord 32 0xAF010203 = some (.ld8S8 1#8 2#8 3#8)
    ∧ decodeTableWord 32 0xB0010203 = some (.lds1S8 1#8 2#8 3#8)
    ∧ decodeTableWord 32 0xB1010203 = some (.lds2S8 1#8 2#8 3#8)
    ∧ decodeTableWord 32 0xB2010203 = some (.lds4S8 1#8 2#8 3#8)
    ∧ decodeTableWord 32 0xB3010203 = some (.st1S8 1#8 2#8 3#8)
    ∧ decodeTableWord 32 0xB4010203 = some (.st2S8 1#8 2#8 3#8)
    ∧ decodeTableWord 32 0xB5010203 = some (.st4S8 1#8 2#8 3#8)
    ∧ decodeTableWord 32 0xB6010203 = some (.st8S8 1#8 2#8 3#8) := by decide +kernel

theorem test_decode_illegal : decodeTableWord 32 0x00000000 = none ∧ decodeTableWord 32 0xFF123456 = none
    ∧ decodeTableWord 32 0x04000000 = none := by decide +kernel

theorem test_encode_samples : encode refOpmap (.ldiu 0xABCD 1) = some 0x28ABCD01#32
    ∧ encode refOpmap (.mulRI 1 (-3) 3) = some 0x1501FD03#32 ∧ encode refOpmap (.jmp (-5)) = some 0x41FFFFFB#32
    ∧ encode refOpmap (.st8S8 1 2 3) = some 0xB6010203#32 ∧ encode refOpmap (.jmpAbs 5 6) = some 0x40050600#32 := by
  decide +kernel

theorem test_table_word_runs_first :
    (after (State.reset.withFetchWord 32 0x28ABCD01)).reg 1 = 0xABCD#64
      ∧ (after (State.reset.withFetchWord 32 0x28ABCD01)).pc = 4#64 := by decide +kernel

/-! ### Single steps: the vectors of 95_test_vectors.md -/

/-- DV1: `ldiu $0xABCD, %1`. -/
theorem test_dv1_ldiu :
    let t := after (vec 0x28ABCD01#32 [])
    (t.reg 1, t.flags, t.pc, t.status) = (0xABCD#64, ⟨false, false, false, false⟩, 0x104#64, .running) := by decide +kernel

/-- DV3: `ldiu $5, %0`. -/
theorem test_dv3_ldiu :
    let t := after ({ vec 0x28000500#32 [] with flags := ⟨true, false, false, false⟩ })
    (t.reg 0, t.flags, t.pc, t.status) = (0x0#64, ⟨false, false, false, false⟩, 0x104#64, .running) := by decide +kernel

/-- DV5: `ldis $0x8000, %1`. -/
theorem test_dv5_ldis :
    let t := after (vec 0x29800001#32 [])
    (t.reg 1, t.flags, t.pc, t.status) = (0xFFFFFFFFFFFF8000#64, ⟨false, false, false, false⟩, 0x104#64, .running) := by decide +kernel

/-- DV6: `ldis $0x7FFF, %1`. -/
theorem test_dv6_ldis :
    let t := after (vec 0x297FFF01#32 [])
    (t.reg 1, t.flags, t.pc, t.status) = (0x7FFF#64, ⟨false, false, false, false⟩, 0x104#64, .running) := by decide +kernel

/-- DV7: `shldi $0x1234, %1`. -/
theorem test_dv7_shldi :
    let t := after (vec 0x2A123401#32 [(1, 0xABCD#64)])
    (t.reg 1, t.flags, t.pc, t.status) = (0xABCD1234#64, ⟨false, false, false, false⟩, 0x104#64, .running) := by decide +kernel

/-- DV9: `shldi $7, %0`. -/
theorem test_dv9_shldi :
    let t := after ({ vec 0x2A000700#32 [] with flags := ⟨true, false, false, false⟩ })
    (t.reg 0, t.flags, t.pc, t.status) = (0x0#64, ⟨false, false, false, false⟩, 0x104#64, .running) := by decide +kernel

/-- DV10: `shl %1, %2, %3`. -/
theorem test_dv10_shlRR :
    let t := after (vec 0x2B010203#32 [(1, 0x4#64), (2, 0xF000000000000001#64)])
    (t.reg 3, t.flags, t.pc, t.status) = (0x10#64, ⟨false, true, false, false⟩, 0x104#64, .running) := by decide +kernel

/-- DV15: `shl %1, %2, %3`. -/
theorem test_dv15_shlRR :
    let t := after (vec 0x2B010203#32 [(1, 0xFFFFFFFFFFFFFFFF#64), (2, 0x2#64)])
    (t.reg 3, t.flags, t.pc, t.status) = (0x0#64, ⟨false, true, false, false⟩, 0x104#64, .running) := by decide +kernel

/-- DV18: `shl $1, %2, %3`. -/
theorem test_dv18_shlIR :
    let t := after (vec 0x2C010203#32 [(2, 0x8000000000000000#64)])
    (t.reg 3, t.flags, t.pc, t.status) = (0x0#64, ⟨false, true, false, false⟩, 0x104#64, .running) := by decide +kernel

/-- DV21: `shl $65, %2, %3`. -/
theorem test_dv21_shlIR :
    let t := after ({ vec 0x2C410203#32 [(2, 0x8000000000000001#64)] with cfg := { refConfig with shiftMode := .mathematical } })
    (t.reg 3, t.flags, t.pc, t.status) = (0x0#64, ⟨false, false, false, false⟩, 0x104#64, .running) := by decide +kernel

/-- DV22: `shr %1, %2, %3`. -/
theorem test_dv22_shrRR :
    let t := after (vec 0x2D010203#32 [(1, 0x4#64), (2, 0x80#64)])
    (t.reg 3, t.flags, t.pc, t.status) = (0x8#64, ⟨false, false, false, false⟩, 0x104#64, .running) := by decide +kernel

/-- DV24: `shr %1, %2, %3`. -/
theorem test_dv24_shrRR :
    let t := after ({ vec 0x2D010203#32 [(1, 0x40#64), (2, 0x80#64)] with cfg := { refConfig with shiftMode := .mathematical } })
    (t.reg 3, t.flags, t.pc, t.status) = (0x0#64, ⟨false, false, false, false⟩, 0x104#64, .running) := by decide +kernel

/-- DV25: `shr $63, %2, %3`. -/
theorem test_dv25_shrIR :
    let t := after (vec 0x2E3F0203#32 [(2, 0x8000000000000000#64)])
    (t.reg 3, t.flags, t.pc, t.status) = (0x1#64, ⟨false, false, false, false⟩, 0x104#64, .running) := by decide +kernel

/-- DV26: `shr $0, %2, %3`. -/
theorem test_dv26_shrIR :
    let t := after ({ vec 0x2E000203#32 [(2, 0xFFFFFFFFFFFFFFFF#64)] with flags := ⟨false, true, false, false⟩ })
    (t.reg 3, t.flags, t.pc, t.status) = (0xFFFFFFFFFFFFFFFF#64, ⟨false, true, false, false⟩, 0x104#64, .running) := by decide +kernel

/-- DV27: `sar %1, %2, %3`. -/
theorem test_dv27_sarRR :
    let t := after (vec 0x2F010203#32 [(1, 0x4#64), (2, 0xFFFFFFFFFFFFFF80#64)])
    (t.reg 3, t.flags, t.pc, t.status) = (0xFFFFFFFFFFFFFFF8#64, ⟨false, false, false, false⟩, 0x104#64, .running) := by decide +kernel

/-- DV29: `sar %1, %2, %3`. -/
theorem test_dv29_sarRR :
    let t := after ({ vec 0x2F010203#32 [(1, 0xC8#64), (2, 0xFFFFFFFFFFFFFF80#64)] with cfg := { refConfig with shiftMode := .mathematical } })
    (t.reg 3, t.flags, t.pc, t.status) = (0xFFFFFFFFFFFFFFFF#64, ⟨false, false, false, false⟩, 0x104#64, .running) := by decide +kernel

/-- DV30: `sar $63, %2, %3`. -/
theorem test_dv30_sarIR :
    let t := after (vec 0x303F0203#32 [(2, 0x8000000000000000#64)])
    (t.reg 3, t.flags, t.pc, t.status) = (0xFFFFFFFFFFFFFFFF#64, ⟨false, false, false, false⟩, 0x104#64, .running) := by decide +kernel

/-- DV31: `sar $63, %2, %3`. -/
theorem test_dv31_sarIR :
    let t := after (vec 0x303F0203#32 [(2, 0x7FFFFFFFFFFFFFFF#64)])
    (t.reg 3, t.flags, t.pc, t.status) = (0x0#64, ⟨false, false, false, false⟩, 0x104#64, .running) := by decide +kernel

/-- DV33: `add %1, %2, %3`. -/
theorem test_dv33_addRR :
    let t := after (vec 0x10010203#32 [(1, 0x7FFFFFFFFFFFFFFF#64), (2, 0x1#64)])
    (t.reg 3, t.flags, t.pc, t.status) = (0x8000000000000000#64, ⟨false, false, true, true⟩, 0x104#64, .running) := by decide +kernel

/-- DV34: `add %1, %2, %3`. -/
theorem test_dv34_addRR :
    let t := after (vec 0x10010203#32 [(1, 0x8000000000000000#64), (2, 0x8000000000000000#64)])
    (t.reg 3, t.flags, t.pc, t.status) = (0x0#64, ⟨true, true, true, false⟩, 0x104#64, .running) := by decide +kernel

/-- DV38: `add $1, %2, %3`. -/
theorem test_dv38_addIR :
    let t := after (vec 0x11010203#32 [(2, 0xFFFFFFFFFFFFFFFF#64)])
    (t.reg 3, t.flags, t.pc, t.status) = (0x0#64, ⟨true, true, false, false⟩, 0x104#64, .running) := by decide +kernel

/-- DV39: `add $255, %2, %3`. -/
theorem test_dv39_addIR :
    let t := after (vec 0x11FF0203#32 [(2, 0x1#64)])
    (t.reg 3, t.flags, t.pc, t.status) = (0x100#64, ⟨false, false, false, false⟩, 0x104#64, .running) := by decide +kernel

/-- DV40: `sub %1, %2, %3`. -/
theorem test_dv40_subRR :
    let t := after (vec 0x12010203#32 [(1, 0x5#64), (2, 0x3#64)])
    (t.reg 3, t.flags, t.pc, t.status) = (0xFFFFFFFFFFFFFFFE#64, ⟨false, true, false, true⟩, 0x104#64, .running) := by decide +kernel

/-- DV44: `sub %1, %2, %3`. -/
theorem test_dv44_subRR :
    let t := after (vec 0x12010203#32 [(1, 0xFFFFFFFFFFFFFFFF#64), (2, 0x7FFFFFFFFFFFFFFF#64)])
    (t.reg 3, t.flags, t.pc, t.status) = (0x8000000000000000#64, ⟨false, true, true, true⟩, 0x104#64, .running) := by decide +kernel

/-- DV45: `sub $1, %2, %3`. -/
theorem test_dv45_subIR :
    let t := after (vec 0x13010203#32 [(2, 0x8000000000000000#64)])
    (t.reg 3, t.flags, t.pc, t.status) = (0x7FFFFFFFFFFFFFFF#64, ⟨false, false, true, false⟩, 0x104#64, .running) := by decide +kernel

/-- DV46: `sub $0, %2, %0`. -/
theorem test_dv46_subIR :
    let t := after ({ vec 0x13000200#32 [(2, 0x0#64)] with flags := ⟨false, true, true, false⟩ })
    (t.reg 0, t.flags, t.pc, t.status) = (0x0#64, ⟨true, false, false, false⟩, 0x104#64, .running) := by decide +kernel

/-- DV51: `mul %1, %2, %3`. -/
theorem test_dv51_mulRR :
    let t := after ({ vec 0x14010203#32 [(1, 0x7FFFFFFFFFFFFFFF#64), (2, 0x2#64)] with cfg := { refConfig with mulOvfMode := .signedFit } })
    (t.reg 3, t.flags, t.pc, t.status) = (0xFFFFFFFFFFFFFFFE#64, ⟨false, true, true, false⟩, 0x104#64, .running) := by decide +kernel

/-- DV52: `mul %1, %2, %3`. -/
theorem test_dv52_mulRR :
    let t := after (vec 0x14010203#32 [(1, 0xFFFFFFFFFFFFFFFF#64), (2, 0x1#64)])
    (t.reg 3, t.flags, t.pc, t.status) = (0xFFFFFFFFFFFFFFFF#64, ⟨false, true, true, false⟩, 0x104#64, .running) := by decide +kernel

/-- DV55: `mul %1, $-3, %3`. -/
theorem test_dv55_mulRI :
    let t := after (vec 0x1501FD03#32 [(1, 0x5#64)])
    (t.reg 3, t.flags, t.pc, t.status) = (0xFFFFFFFFFFFFFFF1#64, ⟨false, true, true, false⟩, 0x104#64, .running) := by decide +kernel

/-- DV56: `mul %1, $-1, %3`. -/
theorem test_dv56_mulRI :
    let t := after ({ vec 0x1501FF03#32 [(1, 0x8000000000000000#64)] with cfg := { refConfig with mulOvfMode := .signedFit } })
    (t.reg 3, t.flags, t.pc, t.status) = (0x8000000000000000#64, ⟨false, true, true, false⟩, 0x104#64, .running) := by decide +kernel

/-- DV61: `divu %1, %2, %254`. -/
theorem test_dv61_divuRR :
    let t := after (vec 0x160102FE#32 [(1, 0x0#64), (2, 0x5#64)])
    (t.reg 254, t.flags, t.pc, t.status, t.exitCode, t.lastError) = (0x0#64, ⟨false, false, false, false⟩, 0x100#64, .halted, 0x0#64, some (.registerIndexOutOfRange [0x2#8, 0xFE#8])) := by decide +kernel

/-- DV63: `divu %1, %2, %1`. -/
theorem test_dv63_divuRR :
    let t := after (vec 0x16010201#32 [(1, 0xA#64), (2, 0x23#64), (3, 0x0#64)])
    (t.reg 1, t.reg 2, t.reg 3, t.flags, t.pc, t.status) = (0x3#64, 0x0#64, 0x5#64, ⟨false, false, false, false⟩, 0x104#64, .running) := by decide +kernel

/-- DV64: `divu $2, %2, %4`. -/
theorem test_dv64_divuIR :
    let t := after (vec 0x17020204#32 [(2, 0x1#64), (3, 0xFFFFFFFFFFFFFFFF#64)])
    (t.reg 4, t.reg 5, t.reg 6, t.flags, t.pc, t.status) = (0x8000000000000000#64, 0x7FFFFFFFFFFFFFFF#64, 0x1#64, ⟨false, false, false, false⟩, 0x104#64, .running) := by decide +kernel

/-- DV66: `divu $0, %2, %4`. -/
theorem test_dv66_divuIR :
    let t := after (vec 0x17000204#32 [(2, 0x1#64)])
    (t.reg 4, t.flags, t.pc, t.status, t.exitCode, t.lastError) = (0x0#64, ⟨false, false, false, false⟩, 0x100#64, .halted, 0x0#64, some (.arithmeticFault .divideByZero)) := by decide +kernel

/-- DV70: `idiv %1, %2, %3`. -/
theorem test_dv70_idivRR :
    let t := after (vec 0x18010203#32 [(1, 0xFFFFFFFFFFFFFFFE#64), (2, 0xFFFFFFFFFFFFFFF9#64)])
    (t.reg 3, t.reg 4, t.flags, t.pc, t.status) = (0x3#64, 0xFFFFFFFFFFFFFFFF#64, ⟨false, false, false, false⟩, 0x104#64, .running) := by decide +kernel

/-- DV71: `idiv %1, %2, %3`. -/
theorem test_dv71_idivRR :
    let t := after (vec 0x18010203#32 [(1, 0xFFFFFFFFFFFFFFFF#64), (2, 0x8000000000000000#64)])
    (t.reg 3, t.flags, t.pc, t.status) = (0x8000000000000000#64, ⟨false, false, false, false⟩, 0x104#64, .running) := by decide +kernel

/-- DV77: `idiv $-2, %2, %3`. -/
theorem test_dv77_idivIR :
    let t := after (vec 0x19FE0203#32 [(2, 0x7#64)])
    (t.reg 3, t.reg 4, t.flags, t.pc, t.status) = (0xFFFFFFFFFFFFFFFD#64, 0x1#64, ⟨false, false, false, false⟩, 0x104#64, .running) := by decide +kernel

/-- DV79: `idiv $0, %2, %3`. -/
theorem test_dv79_idivIR :
    let t := after (vec 0x19000203#32 [(2, 0x7#64)])
    (t.reg 3, t.flags, t.pc, t.status, t.exitCode, t.lastError) = (0x0#64, ⟨false, false, false, false⟩, 0x100#64, .halted, 0x0#64, some (.arithmeticFault .divideByZero)) := by decide +kernel

/-- DV80: `and %1, %2, %3`. -/
theorem test_dv80_andRR :
    let t := after (vec 0x20010203#32 [(1, 0xF0#64), (2, 0xF#64)])
    (t.reg 3, t.flags, t.pc, t.status) = (0x0#64, ⟨true, false, false, false⟩, 0x104#64, .running) := by decide +kernel

/-- DV81: `and %1, %2, %3`. -/
theorem test_dv81_andRR :
    let t := after ({ vec 0x20010203#32 [(1, 0xFF#64), (2, 0x3C#64)] with flags := ⟨false, true, true, true⟩ })
    (t.reg 3, t.flags, t.pc, t.status) = (0x3C#64, ⟨false, true, true, true⟩, 0x104#64, .running) := by decide +kernel

/-- DV82: `or %1, %2, %3`. -/
theorem test_dv82_orRR :
    let t := after (vec 0x21010203#32 [(1, 0xF0#64), (2, 0xF#64)])
    (t.reg 3, t.flags, t.pc, t.status) = (0xFF#64, ⟨false, false, false, false⟩, 0x104#64, .running) := by decide +kernel

/-- DV83: `or %1, %0, %0`. -/
theorem test_dv83_orRR :
    let t := after (vec 0x21010000#32 [(1, 0x0#64)])
    (t.reg 0, t.flags, t.pc, t.status) = (0x0#64, ⟨true, false, false, false⟩, 0x104#64, .running) := by decide +kernel

/-- DV84: `not %1, %2`. -/
theorem test_dv84_notRR :
    let t := after (vec 0x22010200#32 [(1, 0x0#64)])
    (t.reg 2, t.flags, t.pc, t.status) = (0xFFFFFFFFFFFFFFFF#64, ⟨false, false, false, false⟩, 0x104#64, .running) := by decide +kernel

/-- DV85: `not %1, %1`. -/
theorem test_dv85_notRR :
    let t := after (vec 0x22010100#32 [(1, 0xFFFFFFFFFFFFFFFF#64)])
    (t.reg 1, t.flags, t.pc, t.status) = (0x0#64, ⟨true, false, false, false⟩, 0x104#64, .running) := by decide +kernel

/-- DV97: `lds2 $2(%2), %3`. -/
theorem test_dv97_lds2D :
    let t := after (memVec 0x85020203#32 [(2, 0x1000#64)])
    (t.reg 3, t.flags, t.pc, t.status) = (0x203#64, ⟨false, false, false, false⟩, 0x104#64, .running) := by decide +kernel

/-- DV98: `ldu4 $2(%2), %3`. -/
theorem test_dv98_ldu4D :
    let t := after (memVec 0x82020203#32 [(2, 0x1000#64)])
    (t.reg 3, t.flags, t.pc, t.status, t.exitCode, t.lastError) = (0x0#64, ⟨false, false, false, false⟩, 0x100#64, .halted, 0x0#64, some (.memoryMisaligned 0x1002#64 .b4)) := by decide +kernel

/-- DV100: `ld8 $-8(%0), %3`. -/
theorem test_dv100_ld8D :
    let t := after (memVec 0x83F80003#32 [(3, 0x1#64)])
    (t.reg 3, t.flags, t.pc, t.status) = (0x0#64, ⟨false, false, false, false⟩, 0x104#64, .running) := by decide +kernel

/-- DV101: `st8 %3, $-8(%0)`. -/
theorem test_dv101_st8D :
    let t := after (memVec 0x8AF80003#32 [(3, 0x102030405060708#64)])
    ([t.mem.byte 0xFFFFFFFFFFFFFFF8, t.mem.byte 0xFFFFFFFFFFFFFFF9, t.mem.byte 0xFFFFFFFFFFFFFFFA, t.mem.byte 0xFFFFFFFFFFFFFFFB, t.mem.byte 0xFFFFFFFFFFFFFFFC, t.mem.byte 0xFFFFFFFFFFFFFFFD, t.mem.byte 0xFFFFFFFFFFFFFFFE, t.mem.byte 0xFFFFFFFFFFFFFFFF], t.flags, t.pc, t.status, t.mem.pages) = ([0x01#8, 0x02#8, 0x03#8, 0x04#8, 0x05#8, 0x06#8, 0x07#8, 0x08#8], ⟨false, false, false, false⟩, 0x104#64, .running, [0, 4, 0x3FFFFFFFFFFFFF]) := by decide +kernel

/-- DV102: `st4 %3, $4(%2)`. -/
theorem test_dv102_st4D :
    let t := after (memVec 0x89040203#32 [(2, 0x2000#64), (3, 0xAABBCCDD#64)])
    ([t.mem.byte 0x2004, t.mem.byte 0x2005, t.mem.byte 0x2006, t.mem.byte 0x2007], t.flags, t.pc, t.status, t.mem.pages) = ([0xAA#8, 0xBB#8, 0xCC#8, 0xDD#8], ⟨false, false, false, false⟩, 0x104#64, .running, [0, 4, 0x8]) := by decide +kernel

/-- DV104: `st1 %0, $0(%2)`. -/
theorem test_dv104_st1D :
    let t := after (memVec 0x87000200#32 [(2, 0x1000#64)])
    ([t.mem.byte 0x1000], t.flags, t.pc, t.status) = ([0x00#8], ⟨false, false, false, false⟩, 0x104#64, .running) := by decide +kernel

/-- DV105: `ldu1 $-8(%2), %2`. -/
theorem test_dv105_ldu1D :
    let t := after (memVec 0x80F80202#32 [(2, 0x1008#64)])
    (t.reg 2, t.flags, t.pc, t.status) = (0x80#64, ⟨false, false, false, false⟩, 0x104#64, .running) := by decide +kernel

/-- DV106: `ld8 (%1, %2, 8), %3`. -/
theorem test_dv106_ld8S8 :
    let t := after (memVec 0xAF010203#32 [(1, 0xFF0#64), (2, 0x2#64)])
    (t.reg 3, t.flags, t.pc, t.status) = (0x80010203F4050607#64, ⟨false, false, false, false⟩, 0x104#64, .running) := by decide +kernel

/-- DV107: `lds1 (%1, %2, 1), %3`. -/
theorem test_dv107_lds1S1 :
    let t := after (memVec 0x8F010203#32 [(1, 0x1008#64), (2, 0xFFFFFFFFFFFFFFF8#64)])
    (t.reg 3, t.flags, t.pc, t.status) = (0xFFFFFFFFFFFFFF80#64, ⟨false, false, false, false⟩, 0x104#64, .running) := by decide +kernel

/-- DV108: `ldu2 (%1, %2, 2), %3`. -/
theorem test_dv108_ldu2S2 :
    let t := after (memVec 0x97010203#32 [(1, 0x1000#64), (2, 0x1#64)])
    (t.reg 3, t.flags, t.pc, t.status) = (0x203#64, ⟨false, false, false, false⟩, 0x104#64, .running) := by decide +kernel

/-- DV109: `lds4 (%1, %2, 4), %3`. -/
theorem test_dv109_lds4S4 :
    let t := after (memVec 0xA7010203#32 [(1, 0x1000#64), (2, 0x1#64)])
    (t.reg 3, t.flags, t.pc, t.status) = (0xFFFFFFFFF4050607#64, ⟨false, false, false, false⟩, 0x104#64, .running) := by decide +kernel

/-- DV110: `st2 %3, (%1, %2, 2)`. -/
theorem test_dv110_st2S2 :
    let t := after (memVec 0x9E010203#32 [(1, 0x1000#64), (2, 0x3#64), (3, 0xBEEF#64)])
    ([t.mem.byte 0x1006, t.mem.byte 0x1007], t.flags, t.pc, t.status) = ([0xBE#8, 0xEF#8], ⟨false, false, false, false⟩, 0x104#64, .running) := by decide +kernel

/-- DV112: `ldu1 (%1, %2, 1), %3`. -/
theorem test_dv112_ldu1S1 :
    let t := after ({ memVec 0x8B010203#32 [(1, 0xF00#64), (2, 0x1#64)] with cfg := { refConfig with scaleRule := .literalShift } })
    (t.reg 3, t.flags, t.pc, t.status) = (0x80#64, ⟨false, false, false, false⟩, 0x104#64, .running) := by decide +kernel

/-- DV113: `ldu1 (%1, %2, 8), %3`. -/
theorem test_dv113_ldu1S8 :
    let t := after ({ memVec 0xAC010203#32 [(1, 0xFFF#64), (2, 0x1#64)] with cfg := { refConfig with scaleRule := .literalShift } })
    (t.reg 3, t.flags, t.pc, t.status) = (0x80#64, ⟨false, false, false, false⟩, 0x104#64, .running) := by decide +kernel

/-- DV114: `st8 %3, (%1, %2, 8)`. -/
theorem test_dv114_st8S8 :
    let t := after ({ vec 0xB6010203#32 [(1, 0x3000#64), (2, 0x0#64), (3, 0x5#64)] with cfg := { refConfig with pageCapacity := some 1 } })
    (t.flags, t.pc, t.status, t.exitCode, t.lastError) = (⟨false, false, false, false⟩, 0x100#64, .halted, 0x0#64, some (.pageAllocFailure 0x3000#64 .b8)) := by decide +kernel

/-- DV115: `jmp %5, %6`. -/
theorem test_dv115_jmpAbs :
    let t := after (vec 0x40050600#32 [(5, 0x200#64)])
    (t.reg 6, t.flags, t.pc, t.status) = (0x104#64, ⟨false, false, false, false⟩, 0x200#64, .running) := by decide +kernel

/-- DV117: `jmp %6, %0`. -/
theorem test_dv117_jmpAbs :
    let t := after (vec 0x40060000#32 [(6, 0x102#64)])
    (t.flags, t.pc, t.status) = (⟨false, false, false, false⟩, 0x102#64, .running) := by decide +kernel

/-- DV121: `jmp $0x7FFFFF`. -/
theorem test_dv121_jmp :
    let t := after (vec 0x417FFFFF#32 [])
    (t.flags, t.pc, t.status) = (⟨false, false, false, false⟩, 0x20000FC#64, .running) := by decide +kernel

/-- DV122: `jmp $-0x800000`. -/
theorem test_dv122_jmp :
    let t := after (vec 0x41800000#32 [])
    (t.flags, t.pc, t.status) = (⟨false, false, false, false⟩, 0xFFFFFFFFFE000100#64, .running) := by decide +kernel

/-- DV123: `ja $3`. -/
theorem test_dv123_ja :
    let t := after (vec 0x42000003#32 [])
    (t.flags, t.pc, t.status) = (⟨false, false, false, false⟩, 0x10C#64, .running) := by decide +kernel

/-- DV124: `ja $3`. -/
theorem test_dv124_ja :
    let t := after ({ vec 0x42000003#32 [] with flags := ⟨true, false, false, false⟩ })
    (t.flags, t.pc, t.status) = (⟨true, false, false, false⟩, 0x104#64, .running) := by decide +kernel

/-- DV125: `jbe $3`. -/
theorem test_dv125_jbe :
    let t := after ({ vec 0x43000003#32 [] with flags := ⟨false, true, false, false⟩ })
    (t.flags, t.pc, t.status) = (⟨false, true, false, false⟩, 0x10C#64, .running) := by decide +kernel

/-- DV126: `jbe $3`. -/
theorem test_dv126_jbe :
    let t := after (vec 0x43000003#32 [])
    (t.flags, t.pc, t.status) = (⟨false, false, false, false⟩, 0x104#64, .running) := by decide +kernel

/-- DV127: `jae $3`. -/
theorem test_dv127_jae :
    let t := after (vec 0x44000003#32 [])
    (t.flags, t.pc, t.status) = (⟨false, false, false, false⟩, 0x10C#64, .running) := by decide +kernel

/-- DV128: `jae $3`. -/
theorem test_dv128_jae :
    let t := after ({ vec 0x44000003#32 [] with flags := ⟨false, true, false, false⟩ })
    (t.flags, t.pc, t.status) = (⟨false, true, false, false⟩, 0x104#64, .running) := by decide +kernel

/-- DV129: `jb $3`. -/
theorem test_dv129_jb :
    let t := after ({ vec 0x45000003#32 [] with flags := ⟨false, true, false, false⟩ })
    (t.flags, t.pc, t.status) = (⟨false, true, false, false⟩, 0x10C#64, .running) := by decide +kernel

/-- DV130: `jb $3`. -/
theorem test_dv130_jb :
    let t := after (vec 0x45000003#32 [])
    (t.flags, t.pc, t.status) = (⟨false, false, false, false⟩, 0x104#64, .running) := by decide +kernel

/-- DV131: `jg $3`. -/
theorem test_dv131_jg :
    let t := after ({ vec 0x46000003#32 [] with flags := ⟨false, false, true, true⟩ })
    (t.flags, t.pc, t.status) = (⟨false, false, true, true⟩, 0x10C#64, .running) := by decide +kernel

/-- DV132: `jg $3`. -/
theorem test_dv132_jg :
    let t := after ({ vec 0x46000003#32 [] with flags := ⟨true, false, false, false⟩ })
    (t.flags, t.pc, t.status) = (⟨true, false, false, false⟩, 0x104#64, .running) := by decide +kernel

/-- DV133: `jle $3`. -/
theorem test_dv133_jle :
    let t := after ({ vec 0x47000003#32 [] with flags := ⟨false, false, false, true⟩ })
    (t.flags, t.pc, t.status) = (⟨false, false, false, true⟩, 0x10C#64, .running) := by decide +kernel

/-- DV134: `jle $3`. -/
theorem test_dv134_jle :
    let t := after ({ vec 0x47000003#32 [] with flags := ⟨false, false, true, true⟩ })
    (t.flags, t.pc, t.status) = (⟨false, false, true, true⟩, 0x104#64, .running) := by decide +kernel

/-- DV135: `jge $3`. -/
theorem test_dv135_jge :
    let t := after (vec 0x48000003#32 [])
    (t.flags, t.pc, t.status) = (⟨false, false, false, false⟩, 0x10C#64, .running) := by decide +kernel

/-- DV136: `jge $3`. -/
theorem test_dv136_jge :
    let t := after ({ vec 0x48000003#32 [] with flags := ⟨false, false, false, true⟩ })
    (t.flags, t.pc, t.status) = (⟨false, false, false, true⟩, 0x104#64, .running) := by decide +kernel

/-- DV137: `jl $3`. -/
theorem test_dv137_jl :
    let t := after ({ vec 0x49000003#32 [] with flags := ⟨false, false, true, false⟩ })
    (t.flags, t.pc, t.status) = (⟨false, false, true, false⟩, 0x10C#64, .running) := by decide +kernel

/-- DV138: `jl $3`. -/
theorem test_dv138_jl :
    let t := after ({ vec 0x49000003#32 [] with flags := ⟨false, false, true, true⟩ })
    (t.flags, t.pc, t.status) = (⟨false, false, true, true⟩, 0x104#64, .running) := by decide +kernel

/-- DV139: `jz $3`. -/
theorem test_dv139_jz :
    let t := after ({ vec 0x4A000003#32 [] with flags := ⟨true, false, false, false⟩ })
    (t.flags, t.pc, t.status) = (⟨true, false, false, false⟩, 0x10C#64, .running) := by decide +kernel

/-- DV140: `jz $3`. -/
theorem test_dv140_jz :
    let t := after (vec 0x4A000003#32 [])
    (t.flags, t.pc, t.status) = (⟨false, false, false, false⟩, 0x104#64, .running) := by decide +kernel

/-- DV141: `jnz $3`. -/
theorem test_dv141_jnz :
    let t := after (vec 0x4B000003#32 [])
    (t.flags, t.pc, t.status) = (⟨false, false, false, false⟩, 0x10C#64, .running) := by decide +kernel

/-- DV142: `jnz $3`. -/
theorem test_dv142_jnz :
    let t := after ({ vec 0x4B000003#32 [] with flags := ⟨true, false, false, false⟩ })
    (t.flags, t.pc, t.status) = (⟨true, false, false, false⟩, 0x104#64, .running) := by decide +kernel

/-- DV143: `halt %4`. -/
theorem test_dv143_haltR :
    let t := after (vec 0x1040000#32 [(4, 0x7#64)])
    (t.flags, t.pc, t.status, t.exitCode) = (⟨false, false, false, false⟩, 0x100#64, .halted, 0x7#64) := by decide +kernel

/-- DV144: `halt %4`. -/
theorem test_dv144_haltR :
    let t := after (vec 0x1040000#32 [(4, 0xFFFFFFFFFFFFFFFF#64)])
    (t.flags, t.pc, t.status, t.exitCode) = (⟨false, false, false, false⟩, 0x100#64, .halted, 0xFFFFFFFFFFFFFFFF#64) := by decide +kernel

/-- DV145: `halt $3`. -/
theorem test_dv145_haltI :
    let t := after (vec 0x2030000#32 [])
    (t.flags, t.pc, t.status, t.exitCode) = (⟨false, false, false, false⟩, 0x100#64, .halted, 0x3#64) := by decide +kernel

/-- DV147: `nop (operand bits set)`. -/
theorem test_dv147_nop :
    let t := after (vec 0x3FFFFFF#32 [])
    (t.flags, t.pc, t.status) = (⟨false, false, false, false⟩, 0x104#64, .running) := by decide +kernel

/-- DV148: `putc %2`. -/
theorem test_dv148_putcR :
    let t := after (vec 0x39020000#32 [(2, 0x141#64)])
    (t.flags, t.pc, t.status, t.dev.output) = (⟨false, false, false, false⟩, 0x104#64, .running, [0x41#8]) := by decide +kernel

/-- DV149: `putc %0`. -/
theorem test_dv149_putcR :
    let t := after (vec 0x39000000#32 [])
    (t.flags, t.pc, t.status, t.dev.output) = (⟨false, false, false, false⟩, 0x104#64, .running, [0x00#8]) := by decide +kernel

/-- DV150: `putc $10`. -/
theorem test_dv150_putcI :
    let t := after (vec 0x3A0A0000#32 [])
    (t.flags, t.pc, t.status, t.dev.output) = (⟨false, false, false, false⟩, 0x104#64, .running, [0x0A#8]) := by decide +kernel

/-- DV151: `getc %5`. -/
theorem test_dv151_getc :
    let t := after ({ vec 0x38050000#32 [] with dev := { input := [0x41#8], output := [] } })
    (t.reg 5, t.flags, t.pc, t.status) = (0x41#64, ⟨false, false, false, false⟩, 0x104#64, .running) := by decide +kernel

/-- DV152: `getc %5`. -/
theorem test_dv152_getc :
    let t := after (vec 0x38050000#32 [(5, 0x9#64)])
    (t.reg 5, t.flags, t.pc, t.status) = (0x9#64, ⟨false, false, false, false⟩, 0x100#64, .blocked) := by decide +kernel

/-- DV155: `(opcode 0xFF)`. -/
theorem test_dv155_illegal :
    let t := after (vec 0xFF123456#32 [])
    (t.flags, t.pc, t.status, t.exitCode, t.lastError) = (⟨false, false, false, false⟩, 0x100#64, .halted, 0x0#64, some (.illegalInstruction 0xFF#8 0x100#64)) := by decide +kernel

/-- DV156: `(opcode 0x04)`. -/
theorem test_dv156_illegal :
    let t := after (vec 0x4000000#32 [])
    (t.flags, t.pc, t.status, t.exitCode, t.lastError) = (⟨false, false, false, false⟩, 0x100#64, .halted, 0x0#64, some (.illegalInstruction 0x4#8 0x100#64)) := by decide +kernel

/-! ### Single steps: the worked examples of 44_memory_access.md -/

/-- R185. -/
theorem test_example_ldu1D : (after (memVec 0x80F80203#32 [(2, 0x1008#64)])).reg 3 = 0x80#64 := by decide +kernel

/-- R186. -/
theorem test_example_ldu2D : (after (memVec 0x81F80203#32 [(2, 0x1008#64)])).reg 3 = 0x8001#64 := by decide +kernel

/-- R187. -/
theorem test_example_ldu4D : (after (memVec 0x82F80203#32 [(2, 0x1008#64)])).reg 3 = 0x80010203#64 := by decide +kernel

/-- R188. -/
theorem test_example_ld8D : (after (memVec 0x83F80203#32 [(2, 0x1008#64)])).reg 3 = 0x80010203F4050607#64 := by decide +kernel

/-- R189. -/
theorem test_example_lds1D : (after (memVec 0x84F80203#32 [(2, 0x1008#64)])).reg 3 = 0xFFFFFFFFFFFFFF80#64 := by decide +kernel

/-- R190. -/
theorem test_example_lds2D : (after (memVec 0x85F80203#32 [(2, 0x1008#64)])).reg 3 = 0xFFFFFFFFFFFF8001#64 := by decide +kernel

/-- R191. -/
theorem test_example_lds4D : (after (memVec 0x86F80203#32 [(2, 0x1008#64)])).reg 3 = 0xFFFFFFFF80010203#64 := by decide +kernel

/-- R192. -/
theorem test_example_st1D : (after (memVec 0x87F80203#32 [(2, 0x1008#64), (3, 0x1122334455667788#64)])).mem.read 0x1000#64 .b8 = 0x88010203F4050607#64 := by decide +kernel

/-- R193. -/
theorem test_example_st2D : (after (memVec 0x88F80203#32 [(2, 0x1008#64), (3, 0x1122334455667788#64)])).mem.read 0x1000#64 .b8 = 0x77880203F4050607#64 := by decide +kernel

/-- R194. -/
theorem test_example_st4D : (after (memVec 0x89F80203#32 [(2, 0x1008#64), (3, 0x1122334455667788#64)])).mem.read 0x1000#64 .b8 = 0x55667788F4050607#64 := by decide +kernel

/-- R195. -/
theorem test_example_st8D : (after (memVec 0x8AF80203#32 [(2, 0x1008#64), (3, 0x1122334455667788#64)])).mem.read 0x1000#64 .b8 = 0x1122334455667788#64 := by decide +kernel

/-- R196. -/
theorem test_example_ldu1S1 : (after (memVec 0x8B010203#32 [(1, 0xFF0#64), (2, 0x10#64)])).reg 3 = 0x80#64 := by decide +kernel

/-- R197. -/
theorem test_example_ldu2S1 : (after (memVec 0x8C010203#32 [(1, 0xFF0#64), (2, 0x10#64)])).reg 3 = 0x8001#64 := by decide +kernel

/-- R198. -/
theorem test_example_ldu4S1 : (after (memVec 0x8D010203#32 [(1, 0xFF0#64), (2, 0x10#64)])).reg 3 = 0x80010203#64 := by decide +kernel

/-- R199. -/
theorem test_example_ld8S1 : (after (memVec 0x8E010203#32 [(1, 0xFF0#64), (2, 0x10#64)])).reg 3 = 0x80010203F4050607#64 := by decide +kernel

/-- R200. -/
theorem test_example_lds1S1 : (after (memVec 0x8F010203#32 [(1, 0xFF0#64), (2, 0x10#64)])).reg 3 = 0xFFFFFFFFFFFFFF80#64 := by decide +kernel

/-- R201. -/
theorem test_example_lds2S1 : (after (memVec 0x90010203#32 [(1, 0xFF0#64), (2, 0x10#64)])).reg 3 = 0xFFFFFFFFFFFF8001#64 := by decide +kernel

/-- R202. -/
theorem test_example_lds4S1 : (after (memVec 0x91010203#32 [(1, 0xFF0#64), (2, 0x10#64)])).reg 3 = 0xFFFFFFFF80010203#64 := by decide +kernel

/-- R203. -/
theorem test_example_st1S1 : (after (memVec 0x92010203#32 [(1, 0xFF0#64), (2, 0x10#64), (3, 0x1122334455667788#64)])).mem.read 0x1000#64 .b8 = 0x88010203F4050607#64 := by decide +kernel

/-- R204. -/
theorem test_example_st2S1 : (after (memVec 0x93010203#32 [(1, 0xFF0#64), (2, 0x10#64), (3, 0x1122334455667788#64)])).mem.read 0x1000#64 .b8 = 0x77880203F4050607#64 := by decide +kernel

/-- R205. -/
theorem test_example_st4S1 : (after (memVec 0x94010203#32 [(1, 0xFF0#64), (2, 0x10#64), (3, 0x1122334455667788#64)])).mem.read 0x1000#64 .b8 = 0x55667788F4050607#64 := by decide +kernel

/-- R206. -/
theorem test_example_st8S1 : (after (memVec 0x95010203#32 [(1, 0xFF0#64), (2, 0x10#64), (3, 0x1122334455667788#64)])).mem.read 0x1000#64 .b8 = 0x1122334455667788#64 := by decide +kernel

/-- R207. -/
theorem test_example_ldu1S2 : (after (memVec 0x96010203#32 [(1, 0xFF0#64), (2, 0x8#64)])).reg 3 = 0x80#64 := by decide +kernel

/-- R208. -/
theorem test_example_ldu2S2 : (after (memVec 0x97010203#32 [(1, 0xFF0#64), (2, 0x8#64)])).reg 3 = 0x8001#64 := by decide +kernel

/-- R209. -/
theorem test_example_ldu4S2 : (after (memVec 0x98010203#32 [(1, 0xFF0#64), (2, 0x8#64)])).reg 3 = 0x80010203#64 := by decide +kernel

/-- R210. -/
theorem test_example_ld8S2 : (after (memVec 0x99010203#32 [(1, 0xFF0#64), (2, 0x8#64)])).reg 3 = 0x80010203F4050607#64 := by decide +kernel

/-- R211. -/
theorem test_example_lds1S2 : (after (memVec 0x9A010203#32 [(1, 0xFF0#64), (2, 0x8#64)])).reg 3 = 0xFFFFFFFFFFFFFF80#64 := by decide +kernel

/-- R212. -/
theorem test_example_lds2S2 : (after (memVec 0x9B010203#32 [(1, 0xFF0#64), (2, 0x8#64)])).reg 3 = 0xFFFFFFFFFFFF8001#64 := by decide +kernel

/-- R213. -/
theorem test_example_lds4S2 : (after (memVec 0x9C010203#32 [(1, 0xFF0#64), (2, 0x8#64)])).reg 3 = 0xFFFFFFFF80010203#64 := by decide +kernel

/-- R214. -/
theorem test_example_st1S2 : (after (memVec 0x9D010203#32 [(1, 0xFF0#64), (2, 0x8#64), (3, 0x1122334455667788#64)])).mem.read 0x1000#64 .b8 = 0x88010203F4050607#64 := by decide +kernel

/-- R215. -/
theorem test_example_st2S2 : (after (memVec 0x9E010203#32 [(1, 0xFF0#64), (2, 0x8#64), (3, 0x1122334455667788#64)])).mem.read 0x1000#64 .b8 = 0x77880203F4050607#64 := by decide +kernel

/-- R216. -/
theorem test_example_st4S2 : (after (memVec 0x9F010203#32 [(1, 0xFF0#64), (2, 0x8#64), (3, 0x1122334455667788#64)])).mem.read 0x1000#64 .b8 = 0x55667788F4050607#64 := by decide +kernel

/-- R217. -/
theorem test_example_st8S2 : (after (memVec 0xA0010203#32 [(1, 0xFF0#64), (2, 0x8#64), (3, 0x1122334455667788#64)])).mem.read 0x1000#64 .b8 = 0x1122334455667788#64 := by decide +kernel

/-- R218. -/
theorem test_example_ldu1S4 : (after (memVec 0xA1010203#32 [(1, 0xFF0#64), (2, 0x4#64)])).reg 3 = 0x80#64 := by decide +kernel

/-- R219. -/
theorem test_example_ldu2S4 : (after (memVec 0xA2010203#32 [(1, 0xFF0#64), (2, 0x4#64)])).reg 3 = 0x8001#64 := by decide +kernel

/-- R220. -/
theorem test_example_ldu4S4 : (after (memVec 0xA3010203#32 [(1, 0xFF0#64), (2, 0x4#64)])).reg 3 = 0x80010203#64 := by decide +kernel

/-- R221. -/
theorem test_example_ld8S4 : (after (memVec 0xA4010203#32 [(1, 0xFF0#64), (2, 0x4#64)])).reg 3 = 0x80010203F4050607#64 := by decide +kernel

/-- R222. -/
theorem test_example_lds1S4 : (after (memVec 0xA5010203#32 [(1, 0xFF0#64), (2, 0x4#64)])).reg 3 = 0xFFFFFFFFFFFFFF80#64 := by decide +kernel

/-- R223. -/
theorem test_example_lds2S4 : (after (memVec 0xA6010203#32 [(1, 0xFF0#64), (2, 0x4#64)])).reg 3 = 0xFFFFFFFFFFFF8001#64 := by decide +kernel

/-- R224. -/
theorem test_example_lds4S4 : (after (memVec 0xA7010203#32 [(1, 0xFF0#64), (2, 0x4#64)])).reg 3 = 0xFFFFFFFF80010203#64 := by decide +kernel

/-- R225. -/
theorem test_example_st1S4 : (after (memVec 0xA8010203#32 [(1, 0xFF0#64), (2, 0x4#64), (3, 0x1122334455667788#64)])).mem.read 0x1000#64 .b8 = 0x88010203F4050607#64 := by decide +kernel

/-- R226. -/
theorem test_example_st2S4 : (after (memVec 0xA9010203#32 [(1, 0xFF0#64), (2, 0x4#64), (3, 0x1122334455667788#64)])).mem.read 0x1000#64 .b8 = 0x77880203F4050607#64 := by decide +kernel

/-- R227. -/
theorem test_example_st4S4 : (after (memVec 0xAA010203#32 [(1, 0xFF0#64), (2, 0x4#64), (3, 0x1122334455667788#64)])).mem.read 0x1000#64 .b8 = 0x55667788F4050607#64 := by decide +kernel

/-- R228. -/
theorem test_example_st8S4 : (after (memVec 0xAB010203#32 [(1, 0xFF0#64), (2, 0x4#64), (3, 0x1122334455667788#64)])).mem.read 0x1000#64 .b8 = 0x1122334455667788#64 := by decide +kernel

/-- R229. -/
theorem test_example_ldu1S8 : (after (memVec 0xAC010203#32 [(1, 0xFF0#64), (2, 0x2#64)])).reg 3 = 0x80#64 := by decide +kernel

/-- R230. -/
theorem test_example_ldu2S8 : (after (memVec 0xAD010203#32 [(1, 0xFF0#64), (2, 0x2#64)])).reg 3 = 0x8001#64 := by decide +kernel

/-- R231. -/
theorem test_example_ldu4S8 : (after (memVec 0xAE010203#32 [(1, 0xFF0#64), (2, 0x2#64)])).reg 3 = 0x80010203#64 := by decide +kernel

/-- R232. -/
theorem test_example_ld8S8 : (after (memVec 0xAF010203#32 [(1, 0xFF0#64), (2, 0x2#64)])).reg 3 = 0x80010203F4050607#64 := by decide +kernel

/-- R233. -/
theorem test_example_lds1S8 : (after (memVec 0xB0010203#32 [(1, 0xFF0#64), (2, 0x2#64)])).reg 3 = 0xFFFFFFFFFFFFFF80#64 := by decide +kernel

/-- R234. -/
theorem test_example_lds2S8 : (after (memVec 0xB1010203#32 [(1, 0xFF0#64), (2, 0x2#64)])).reg 3 = 0xFFFFFFFFFFFF8001#64 := by decide +kernel

/-- R235. -/
theorem test_example_lds4S8 : (after (memVec 0xB2010203#32 [(1, 0xFF0#64), (2, 0x2#64)])).reg 3 = 0xFFFFFFFF80010203#64 := by decide +kernel

/-- R236. -/
theorem test_example_st1S8 : (after (memVec 0xB3010203#32 [(1, 0xFF0#64), (2, 0x2#64), (3, 0x1122334455667788#64)])).mem.read 0x1000#64 .b8 = 0x88010203F4050607#64 := by decide +kernel

/-- R237. -/
theorem test_example_st2S8 : (after (memVec 0xB4010203#32 [(1, 0xFF0#64), (2, 0x2#64), (3, 0x1122334455667788#64)])).mem.read 0x1000#64 .b8 = 0x77880203F4050607#64 := by decide +kernel

/-- R238. -/
theorem test_example_st4S8 : (after (memVec 0xB5010203#32 [(1, 0xFF0#64), (2, 0x2#64), (3, 0x1122334455667788#64)])).mem.read 0x1000#64 .b8 = 0x55667788F4050607#64 := by decide +kernel

/-- R239. -/
theorem test_example_st8S8 : (after (memVec 0xB6010203#32 [(1, 0xFF0#64), (2, 0x2#64), (3, 0x1122334455667788#64)])).mem.read 0x1000#64 .b8 = 0x1122334455667788#64 := by decide +kernel

/-! ### The trace of one step: TV3, TV4, TV5 -/

theorem test_trace_jmpAbs_same_register :
    (after (vec 0x40050500#32 [(5, 0x200#64)])).trace.reverse
      = [.memRead 0x100#64 .b4 0x40050500#64, .regWrite 5 0x104#64, .regRead 5 0x104#64, .preview 0#24 .illegal] := by
  decide +kernel

theorem test_trace_store_misaligned :
    (after (vec 0x89020203#32 [(2, 0x2000#64), (3, 7#64)])).trace.reverse
      = [.memRead 0x100#64 .b4 0x89020203#64, .regRead 2 0x2000#64, .regRead 3 7#64,
        .halt 0#64 (some (.memoryMisaligned 0x2002#64 .b4))] := by decide +kernel

theorem test_trace_add_into_x0 :
    (after { vec 0x10010100#32 [(1, 3#64)] with
      mem := (vec 0x10010100#32 []).mem.write 0x104 .b4 0xFF000000 }).trace.reverse
      = [.memRead 0x100#64 .b4 0x10010100#64, .regRead 1 3#64, .regRead 1 3#64, .regWrite 0 6#64,
        .preview 0#24 .illegal] := by decide +kernel

/-! ### Witnesses: what the hypotheses of the statements ask can be met -/

/-- Whether an outcome is a next state. -/
def isNext : Result → Bool
  | .next _ => true
  | .fault _ => false
  | .refused _ => false

theorem next_of {r : Result} (h : isNext r = true) : r = .next (nextOf r) := by
  cases r <;> first | rfl | (simp [isNext] at h)

/-- The state of vector DV32, RUNNING at an ADD_RR. -/
def atAdd : State := vec 0x10010203#32 [(1, 5#64), (2, 7#64)]

/-- RUNNING at a GETC with no input (DV152). -/
def atGetc : State := vec 0x38050000#32 [(5, 9#64)]

/-- At a DIVU_RR whose divisor is 0 (DV60). -/
def atDivideByZero : State := vec 0x16010204#32 [(2, 5#64)]

/-- At an ST4_D whose address is the next word: `st4 %3, $4(%2)` with x2 = 0x100. -/
def atStoreAhead : State := vec 0x89040203#32 [(2, 0x100#64), (3, 0x03000000#64)]

/-- At an ST8_S1 whose address is the next word: `st8 %3, (%2, %0, 1)` at pc = 0x104, with x2 = 0x108. -/
def atWideStoreAhead : State :=
  { vec 0x95020003#32 [(2, 0x108#64), (3, 0x0300000002050000#64)] with
    pc := 0x104, mem := (vec 0 []).mem.write 0x104 .b4 0x95020003 }

/-- At an ST8_D over its own word and the next: `st8 %3, $0(%2)` with x2 = 0x100. -/
def atWideStoreHere : State := vec 0x8A000203#32 [(2, 0x100#64), (3, 0x0300000002050000#64)]

/-- After reset, but with room for no page. -/
def noRoom : State := { State.reset with cfg := { refConfig with pageCapacity := some 0 } }

/-- After reset, but with room for one page. -/
def oneRoom : State := { State.reset with cfg := { refConfig with pageCapacity := some 1 } }

theorem vec_mem_wf (w : InstrWord) (regs : List (RegIdx × Word)) : (vec w regs).mem.wf := by
  have h : ∀ (l : List (RegIdx × Word)) (s : State), (withRegs s l).mem = s.mem := by
    intro l
    induction l with
    | nil => exact fun _ => rfl
    | cons p l ih => exact fun s => (ih _).trans (Laws.setReg_mem s p.1 p.2)
  rw [vec, h]
  exact Laws.write_wf Laws.reset_mem_wf (by decide) _

theorem witness_EncodedInstructionDecodesBack : refOpmap.functional = true ∧ WellFormed refOpmap (.ldiu 65535 255) = true
    ∧ WellFormed refOpmap (.ja (-8388608)) = true ∧ WellFormed refOpmap (.st1D 127 0 0) = true := by decide +kernel

theorem witness_DecodedWordEncodesBack : decodeWord refOpmap 0x03FFFFFF#32 = .ok .nop
    ∧ decodeWord refOpmap 0x01FFFFFF#32 = .ok (.haltR 255) := by decide +kernel

theorem witness_IgnoredBitsDoNotMatter : opcodeBits 0x03FFFFFF#32 = opcodeBits 0x03000000#32
    ∧ ∀ k, refOpmap.kindAt (opcodeBits 0x03FFFFFF#32) = some k →
      fieldBits 0x03FFFFFF#32 &&& usedBits (formatOf k) = fieldBits 0x03000000#32 &&& usedBits (formatOf k) := by
  refine ⟨by decide, fun k h => ?_⟩
  have hk : k = .nop := Option.some.inj (h.symm.trans (by decide))
  subst hk
  decide

theorem witness_IgnoredBitsDoNotMatter_mapped : refOpmap.kindAt (opcodeBits 0x03FFFFFF#32) = some .nop := by decide

theorem witness_MemoryGridNumbering : ((0 < 5) ∧ (0 < 11)) ∧ (4 < 5) ∧ (10 < 11) := by decide

theorem witness_MemReadPrimitive : State.reset.mem.wf ∧ (1020#64).toNat % 1024 + widthBytes .b4 ≤ 1024
    ∧ (1020#64).toNat / 1024 ∉ State.reset.mem.pages := by decide

theorem witness_MemWritePrimitive_misaligned : State.reset.mem.wf ∧ (1023#64).toNat % 1024 % widthBytes .b2 ≠ 0 := by decide

theorem witness_MemWritePrimitive_bounds : State.reset.mem.wf ∧ (1023#64).toNat % 1024 % widthBytes .b3 = 0
    ∧ (1023#64).toNat % 1024 + widthBytes .b3 > 1024 := by decide

theorem witness_MemWritePrimitive_capacity : noRoom.mem.wf ∧ (1016#64).toNat % 1024 % widthBytes .b8 = 0
    ∧ (1016#64).toNat % 1024 + widthBytes .b8 ≤ 1024 ∧ (1016#64).toNat / 1024 ∉ noRoom.mem.pages
    ∧ noRoom.cfg.pageCapacity = some noRoom.mem.pages.length := by decide

theorem witness_MemWritePrimitive_stores : State.reset.mem.wf ∧ (1016#64).toNat % 1024 % widthBytes .b8 = 0
    ∧ (1016#64).toNat % 1024 + widthBytes .b8 ≤ 1024
    ∧ ((1016#64).toNat / 1024 ∈ State.reset.mem.pages
      ∨ State.reset.cfg.pageCapacity ≠ some State.reset.mem.pages.length) := by decide

theorem witness_WriteThenReadRoundTrip : State.reset.mem.wf ∧ accessError 8#64 .b8 = none
    ∧ (0#64).toNat + widthBytes .b8 ≤ (8#64).toNat ∧ (8#64).toNat + widthBytes .b8 ≤ (16#64).toNat
    ∧ accessError (-8#64) .b8 = none := by decide

theorem witness_ShiftLeftResultAndCarry : (1 ≤ (1#64).toNat ∧ (1#64).toNat ≤ 63)
    ∧ 1 ≤ (63#64).toNat ∧ (63#64).toNat ≤ 63 := by decide

theorem witness_UnsignedWideDivideCompletes : (254#8).toNat ≤ 254 ∧ (253#8).toNat ≤ 253 ∧ atAdd.reg 1 ≠ 0
    ∧ (0#8).toNat ≤ 254 ∧ (0#8).toNat ≤ 253 ∧ (1#64) ≠ 0 := by decide +kernel

theorem witness_SignedDivideCompletes : (254#8).toNat ≤ 254 ∧ atAdd.reg 1 ≠ 0 ∧ (-1#64) ≠ 0 := by decide +kernel

theorem witness_DividesTrapBeforeAnyWrite_range : ((255#8).toNat = 255 ∨ 254 ≤ (0#8).toNat)
    ∧ ((0#8).toNat = 255 ∨ 254 ≤ (254#8).toNat) := by decide

theorem witness_DividesTrapBeforeAnyWrite_zero : (254#8).toNat ≤ 254 ∧ (253#8).toNat ≤ 253 ∧ atAdd.reg 0 = 0 := by
  decide +kernel

theorem witness_DisplacementLoadsComplete : (eaD atAdd (-8) 0).toNat % widthBytes .b8 = 0
    ∧ (eaD atAdd (-4) 0).toNat % widthBytes .b4 = 0 ∧ (eaD atAdd (-2) 0).toNat % widthBytes .b2 = 0
    ∧ (eaD atAdd (-1) 0).toNat % widthBytes .b1 = 0 := by decide +kernel

theorem witness_ScaledLoadsComplete : (eaS atAdd 1 2 1).toNat % widthBytes .b4 = 0
    ∧ (eaS atAdd 0 2 8).toNat % widthBytes .b8 = 0 ∧ (eaS atAdd 0 2 2).toNat % widthBytes .b2 = 0
    ∧ (eaS atAdd 0 2 4).toNat % widthBytes .b1 = 0 := by decide +kernel

theorem witness_DisplacementStoresComplete : atAdd.mem.wf ∧ (eaD atAdd (-8) 0).toNat % widthBytes .b8 = 0
    ∧ atAdd.pageReady (eaD atAdd (-8) 0) :=
  ⟨vec_mem_wf _ _, by decide +kernel, .inr (by decide +kernel)⟩

theorem witness_ScaledStoresComplete : atAdd.mem.wf ∧ (eaS atAdd 0 0 8).toNat % widthBytes .b8 = 0
    ∧ atAdd.pageReady (eaS atAdd 0 0 8) :=
  ⟨vec_mem_wf _ _, by decide +kernel, .inl (by decide +kernel)⟩

theorem witness_MisalignedAccessesTrap : (eaD atAdd 1 0).toNat % widthBytes .b2 ≠ 0
    ∧ (eaD atAdd 3 0).toNat % widthBytes .b4 ≠ 0 ∧ (eaD atAdd (-1) 0).toNat % widthBytes .b8 ≠ 0
    ∧ (eaS atAdd 1 0 1).toNat % widthBytes .b2 ≠ 0 ∧ (eaS atAdd 1 0 4).toNat % widthBytes .b4 ≠ 0
    ∧ (eaS atAdd 1 0 8).toNat % widthBytes .b8 ≠ 0 ∧ (eaS atAdd 1 0 2).toNat % widthBytes .b8 ≠ 0 := by decide +kernel

theorem witness_FullPageCapacityTrapsStores : (eaD noRoom (-8) 0).toNat % widthBytes .b8 = 0
    ∧ ¬ noRoom.pageReady (eaD noRoom (-8) 0) ∧ (eaS noRoom 0 0 8).toNat % widthBytes .b8 = 0
    ∧ ¬ noRoom.pageReady (eaS noRoom 0 0 8) := by
  refine ⟨by decide +kernel, ?_, by decide +kernel, ?_⟩ <;> (unfold State.pageReady; decide +kernel)

theorem witness_ScaledIndexByScaleRule : (0 ≤ 3) ∧ (3 ≤ 3) := by decide

theorem witness_RelativeJumpMovesPc : exec (.jmp 1) atAdd = .next (nextOf (exec (.jmp 1) atAdd))
    ∧ atAdd.pc.toNat % 4 = 0 := ⟨rfl, by decide +kernel⟩

theorem witness_ComplementaryJumpPairs : atAdd.jumped = false := by decide +kernel

theorem witness_CompareThenJumpOrdersOperands : atAdd.jumped = false
    ∧ exec (.subRR 1 2 0) atAdd = .next (nextOf (exec (.subRR 1 2 0) atAdd)) := ⟨by decide +kernel, rfl⟩

theorem witness_NopChangesNothing : Fetches (vec 0x03FFFFFF#32 []) .nop ∧ (vec 0x03FFFFFF#32 []).status = .running
    ∧ (vec 0x03FFFFFF#32 []).jumped = false :=
  ⟨⟨by decide +kernel, by decide +kernel, by decide +kernel⟩, by decide +kernel, by decide +kernel⟩

theorem witness_GetcReadsOrBlocks_input : (supplyInput [0x41] atGetc).dev.input = 0x41 :: [] := by decide +kernel

theorem witness_GetcReadsOrBlocks_empty : atGetc.dev.input = [] := by decide +kernel

theorem witness_GetcReadsOrBlocks_step : Fetches atGetc (.getc 5) ∧ atGetc.jumped = false
    ∧ Fetches (supplyInput [0x41] atGetc) (.getc 5) ∧ (supplyInput [0x41] atGetc).jumped = false :=
  ⟨⟨by decide +kernel, by decide +kernel, by decide +kernel⟩, by decide +kernel,
    ⟨by decide +kernel, by decide +kernel, by decide +kernel⟩, by decide +kernel⟩

theorem witness_StepRunsDecodedInstruction : Fetches atAdd (.addRR 1 2 3)
    ∧ Fetches (atGetc.setStatus .blocked) (.getc 5) :=
  ⟨⟨by decide +kernel, by decide +kernel, by decide +kernel⟩, ⟨by decide +kernel, by decide +kernel, by decide +kernel⟩⟩

theorem witness_StepEndsByStatus : ((State.reset.haltWith 3).status = .halted ∧ (State.reset.haltWith 3).lastError = none)
    ∧ ((State.reset.faulted (.arithmeticFault .divideByZero)).status = .halted
      ∧ (State.reset.faulted (.arithmeticFault .divideByZero)).lastError ≠ none)
    ∧ (State.reset.setStatus .blocked).status = .blocked ∧ State.reset.status = .running := by decide

theorem witness_HaltedStepDoesNothing : (State.reset.haltWith 3).status = .halted := by decide

theorem witness_MisalignedFetchHalts_misaligned : (atAdd.jumpTo 0x102).status ≠ .halted
    ∧ (atAdd.jumpTo 0x102).pc.toNat % 4 ≠ 0 := by decide +kernel

theorem witness_MisalignedFetchHalts_aligned : State.reset.status ≠ .halted ∧ State.reset.pc.toNat % 4 = 0
    ∧ step State.reset = .next (after State.reset) ∧ State.reset.mem.wf ∧ pageOf State.reset.pc ∉ State.reset.mem.pages :=
  ⟨by decide, by decide, next_of (by decide +kernel), by decide, by decide⟩

theorem witness_IllegalOpcodeHalts : State.reset.status ≠ .halted ∧ State.reset.pc.toNat % 4 = 0
    ∧ State.reset.cfg.opmap.kindAt (State.reset.mem.byte State.reset.pc.toNat) = none := by decide +kernel

theorem witness_BlockedGetcIsRetried : Fetches atGetc (.getc 5) ∧ atGetc.jumped = false ∧ atGetc.dev.input = [] :=
  ⟨⟨by decide +kernel, by decide +kernel, by decide +kernel⟩, by decide +kernel, by decide +kernel⟩

theorem witness_FaultsArePrecise : atDivideByZero.status ≠ .halted ∧ step atDivideByZero = .next (after atDivideByZero)
    ∧ (after atDivideByZero).status = .halted ∧ (after atDivideByZero).lastError ≠ none :=
  ⟨by decide +kernel, next_of (by decide +kernel), by decide +kernel, by decide +kernel⟩

theorem witness_StepsKeepTheInvariant : atAdd.Inv ∧ step atAdd = .next (after atAdd) :=
  ⟨⟨vec_mem_wf _ _, by decide +kernel, by decide +kernel, by decide +kernel,
      fun h => absurd h (by decide +kernel), fun h => absurd (by decide +kernel) h⟩, next_of (by decide +kernel)⟩

theorem witness_TraceHasNoInfluence : step (untraced atAdd) = .next (after (untraced atAdd))
    ∧ exec (.addRR 1 2 3) (untraced atAdd) = .next (nextOf (exec (.addRR 1 2 3) (untraced atAdd))) :=
  ⟨next_of (by decide +kernel), rfl⟩

theorem witness_OnlyGetcBlocksOnlyHaltHalts_blocks :
    exec (.getc 5) atGetc = .next (nextOf (exec (.getc 5) atGetc)) ∧ (nextOf (exec (.getc 5) atGetc)).status = .blocked
      ∧ atGetc.status ≠ .blocked := ⟨next_of (by decide +kernel), by decide +kernel, by decide +kernel⟩

theorem witness_OnlyGetcBlocksOnlyHaltHalts_halts :
    exec (.haltI 3) atAdd = .next (nextOf (exec (.haltI 3) atAdd)) ∧ (nextOf (exec (.haltI 3) atAdd)).status = .halted
      ∧ atAdd.status ≠ .halted := ⟨rfl, by decide +kernel, by decide +kernel⟩

theorem witness_FlagWritersAreTheTable : exec (.mulRR 1 2 3) atAdd = .next (nextOf (exec (.mulRR 1 2 3) atAdd))
    ∧ (flagsWritten (Instr.mulRR 1 2 3).kind).zf = false ∧ (flagsWritten (Instr.mulRR 1 2 3).kind).sf = false
    ∧ exec (.andRR 1 2 3) atAdd = .next (nextOf (exec (.andRR 1 2 3) atAdd))
    ∧ (flagsWritten (Instr.andRR 1 2 3).kind).cf = false ∧ (flagsWritten (Instr.andRR 1 2 3).kind).of = false :=
  ⟨next_of (by decide +kernel), by decide, by decide, next_of (by decide +kernel), by decide, by decide⟩

theorem witness_RegisterWritersAreTheList : exec (.idivRR 1 2 3) atAdd = .next (nextOf (exec (.idivRR 1 2 3) atAdd))
    ∧ (5#8 ∉ destinations (.idivRR 1 2 3)) := ⟨next_of (by decide +kernel), by decide⟩

theorem witness_OnlyStoresWriteMemory : exec (.ld8D 0 0 3) atAdd = .next (nextOf (exec (.ld8D 0 0 3) atAdd))
    ∧ isStore (Instr.ld8D 0 0 3).kind = false ∧ (Instr.ld8D 0 0 3).kind ≠ .getc ∧ (Instr.ld8D 0 0 3).kind ≠ .putcR
    ∧ (Instr.ld8D 0 0 3).kind ≠ .putcI ∧ (Instr.ld8D 0 0 3).kind ≠ .haltR ∧ (Instr.ld8D 0 0 3).kind ≠ .haltI
    ∧ 0 ∈ atAdd.mem.pages ∧ step atAdd = .next (after atAdd) :=
  ⟨next_of (by decide +kernel), by decide, by decide, by decide, by decide, by decide, by decide, by decide +kernel,
    next_of (by decide +kernel)⟩

theorem witness_FaultCodesOfASingleStep : atDivideByZero.status ≠ .halted
    ∧ step atDivideByZero = .next (after atDivideByZero) ∧ (after atDivideByZero).status = .halted
    ∧ (after atDivideByZero).lastError = some (.arithmeticFault .divideByZero)
    ∧ atDivideByZero.cfg.pageCapacity = none :=
  ⟨by decide +kernel, next_of (by decide +kernel), by decide +kernel, by decide +kernel, by decide +kernel⟩

theorem witness_StoreIsSeenByNextFetch : Fetches atStoreAhead (.st4D 4 2 3) ∧ atStoreAhead.status = .running
    ∧ atStoreAhead.jumped = false ∧ atStoreAhead.mem.wf ∧ (eaD atStoreAhead 4 2).toNat % widthBytes .b4 = 0
    ∧ atStoreAhead.pageReady (eaD atStoreAhead 4 2) ∧ eaD atStoreAhead 4 2 = atStoreAhead.pc + 4 :=
  ⟨⟨by decide +kernel, by decide +kernel, by decide +kernel⟩, by decide +kernel, by decide +kernel, vec_mem_wf _ _,
    by decide +kernel, .inl (by decide +kernel), by decide +kernel⟩

theorem witness_StoreIsSeenByNextFetch_wide_ahead : Fetches atWideStoreAhead (.st8S1 2 0 3)
    ∧ atWideStoreAhead.status = .running ∧ atWideStoreAhead.jumped = false ∧ atWideStoreAhead.mem.wf
    ∧ (eaS atWideStoreAhead 2 0 1).toNat % widthBytes .b8 = 0 ∧ atWideStoreAhead.pageReady (eaS atWideStoreAhead 2 0 1)
    ∧ eaS atWideStoreAhead 2 0 1 = atWideStoreAhead.pc + 4 :=
  ⟨⟨by decide +kernel, by decide +kernel, by decide +kernel⟩, by decide +kernel, by decide +kernel,
    Laws.write_wf (vec_mem_wf _ _) (by decide) _, by decide +kernel, .inl (by decide +kernel), by decide +kernel⟩

theorem witness_StoreIsSeenByNextFetch_wide_here : Fetches atWideStoreHere (.st8D 0 2 3)
    ∧ atWideStoreHere.status = .running ∧ atWideStoreHere.jumped = false ∧ atWideStoreHere.mem.wf
    ∧ (eaD atWideStoreHere 0 2).toNat % widthBytes .b8 = 0 ∧ atWideStoreHere.pageReady (eaD atWideStoreHere 0 2)
    ∧ eaD atWideStoreHere 0 2 = atWideStoreHere.pc :=
  ⟨⟨by decide +kernel, by decide +kernel, by decide +kernel⟩, by decide +kernel, by decide +kernel, vec_mem_wf _ _,
    by decide +kernel, .inl (by decide +kernel), by decide +kernel⟩

/-- The next fetch takes the stored word: `nop` from the ST4, `nop` (the high half) and `halt %5` (the low half) from the
ST8s (R72). -/
theorem test_store_is_fetched_next :
    (after (after atStoreAhead)).ir = 0x03000000#32 ∧ (after (after atWideStoreAhead)).ir = 0x03000000#32
    ∧ (after (after atWideStoreHere)).ir = 0x02050000#32 := by decide +kernel

theorem witness_ImageLoadWritesWords_unbounded : State.reset.mem.wf ∧ [0x02000000#32, 0x03000000#32].length ≤ 2 ^ 62
    ∧ (∀ n, State.reset.cfg.pageCapacity = some n →
        State.reset.mem.pages.length + newImagePages State.reset.mem [0x02000000#32, 0x03000000#32].length ≤ n)
    ∧ [0x02000000#32, 0x03000000#32][1]? = some 0x03000000#32 ∧ 4 * [0x02000000#32, 0x03000000#32].length ≤ 8 :=
  ⟨by decide, by decide, fun n h => (by have hn : (none : Option Nat) = some n := h; cases hn), by decide,
    by decide⟩

/-- A capacity of one page, and an image of the 256 words that fill one page exactly. -/
theorem witness_ImageLoadWritesWords_bounded : oneRoom.mem.wf ∧ (List.replicate 256 0x03000000#32).length ≤ 2 ^ 62
    ∧ (∀ n, oneRoom.cfg.pageCapacity = some n →
        oneRoom.mem.pages.length + newImagePages oneRoom.mem (List.replicate 256 0x03000000#32).length ≤ n) :=
  ⟨by decide, by decide +kernel, fun n h => by
    have hn : 1 = n := Option.some.inj h
    subst hn
    decide +kernel⟩

/-- One word more needs a second page. -/
theorem witness_ImageLoadWritesWords_refused : oneRoom.mem.wf ∧ (List.replicate 257 0x03000000#32).length ≤ 2 ^ 62
    ∧ oneRoom.cfg.pageCapacity = some 1 ∧ oneRoom.mem.pages.length ≤ 1
    ∧ 1 < oneRoom.mem.pages.length + newImagePages oneRoom.mem (List.replicate 257 0x03000000#32).length := by
  decide +kernel

theorem witness_ImageLoadWritesWords_too_long : 2 ^ 62 < (List.replicate (2 ^ 62 + 1) 0x03000000#32).length := by
  rw [List.length_replicate]
  exact Nat.lt_succ_self _

/-- A bounded capacity takes the image that fits it and refuses the next longer one (R314). -/
theorem test_image_capacity :
    (nextOf (loadImage (List.replicate 256 0x03000000#32) oneRoom)).mem.pages = [0]
    ∧ fitsCapacity (some 1) (storeWords oneRoom.mem 0 (List.replicate 257 0x03000000#32)) = false := by decide +kernel

/-- The assembler's offsets: DV122's jump back past address 0, the same reach forward around 2^64, and refusals (R96). -/
theorem test_branch_offsets : branchOffset 0x100 0xFFFFFFFFFE000100 = some (-0x800000)
    ∧ branchOffset 0xFFFFFFFFFFFFFFFC 0 = some 1 ∧ branchOffset 0x100 0x20000FC = some 0x7FFFFF
    ∧ branchOffset 0x100 0x2000100 = none ∧ branchOffset 0x100 0x102 = none := by decide +kernel

/-- An input that arrives while a run blocks lets it go on: `getc %5`, then the word of all zero bytes, which is illegal. -/
theorem test_run_with_input : runFuel 5 (vec 0x38050000#32 []) = none
    ∧ (runWithInput [[], [], [0x41], []] (vec 0x38050000#32 [])).map (fun r => r.2.reg 5) = some 0x41#64 := by
  decide +kernel

theorem test_opcode_text : hexByte 0xFF = "0xFF" ∧ hexByte 0x04 = "0x04" := by decide +kernel

theorem witness_Li64BuildsEveryConstant : (1#8) ≠ 0 ∧ (255#8) ≠ 0 := by decide

theorem witness_RunEndsHaltedAndFuelAddsNothing :
    ∃ c t, runFuel 1 (vec 0x02030000#32 []) = some (c, t) := by
  have h : (runFuel 1 (vec 0x02030000#32 [])).isSome = true := by decide +kernel
  obtain ⟨r, hr⟩ := Option.isSome_iff_exists.mp h
  exact ⟨r.1, r.2, hr⟩

end Sys2Proof.Tests
end

section
/-!
PROOF. The trace port's record never influences a step (R18). A meaning is `TraceBlind` when a record that stands below the
state's own stays below what the meaning adds, and changes nothing else. Every shared operation is trace-blind where what
follows it is, so every instruction's meaning is, and so is the step.
-/

namespace Sys2Proof.Laws.TraceBlindness

open Sys2Proof Sys2Proof.Machine Sys2Proof.Claims

/-! ### An older record below a state's own -/

/-- The state with the record `tr`, older than its own events, below them (the newest event stands first). -/
def withOlder (tr : List TraceEvent) (s : State) : State := { s with trace := s.trace ++ tr }

/-- The answer with the record `tr` below the events of its next state. -/
def resultWithOlder (tr : List TraceEvent) : Result → Result
  | .next s => .next (withOlder tr s)
  | .fault r => .fault r
  | .refused r => .refused r

/-- The meaning `m` does not depend on the record it starts with, and only adds events on top of it (R18). -/
def TraceBlind (m : State → Result) : Prop := ∀ tr s, m (withOlder tr s) = resultWithOlder tr (m s)

/-- Below an empty record, `tr` is the whole record. -/
theorem withOlder_untraced (tr : List TraceEvent) (s : State) : withOlder tr (untraced s) = { s with trace := tr } := rfl

@[simp] theorem resultWithOlder_next (tr : List TraceEvent) (s : State) :
    resultWithOlder tr (.next s) = .next (withOlder tr s) := rfl

/-- A trace-blind meaning from an empty record and from the record `tr`: they differ in `tr` alone. -/
theorem TraceBlind.next_of_untraced {m : State → Result} (hm : TraceBlind m) {s t : State} (tr : List TraceEvent)
    (h : m (untraced s) = .next t) : m { s with trace := tr } = .next { t with trace := t.trace ++ tr } := by
  rw [← withOlder_untraced, hm, h]
  rfl

/-! ### What the updates of the state do below an older record -/

section Updates

variable (tr : List TraceEvent) (s : State)

@[simp] theorem withOlder_flags : (withOlder tr s).flags = s.flags := rfl
@[simp] theorem withOlder_pc : (withOlder tr s).pc = s.pc := rfl
@[simp] theorem withOlder_status : (withOlder tr s).status = s.status := rfl
@[simp] theorem withOlder_exitCode : (withOlder tr s).exitCode = s.exitCode := rfl
@[simp] theorem withOlder_lastError : (withOlder tr s).lastError = s.lastError := rfl
@[simp] theorem withOlder_mem : (withOlder tr s).mem = s.mem := rfl
@[simp] theorem withOlder_dev : (withOlder tr s).dev = s.dev := rfl
@[simp] theorem withOlder_cfg : (withOlder tr s).cfg = s.cfg := rfl

@[simp] theorem emit_withOlder (e : TraceEvent) : (withOlder tr s).emit e = withOlder tr (s.emit e) := rfl
@[simp] theorem setFlags_withOlder (f : Flags) : (withOlder tr s).setFlags f = withOlder tr (s.setFlags f) := rfl
@[simp] theorem setZf_withOlder (b : Bool) : (withOlder tr s).setZf b = withOlder tr (s.setZf b) := rfl
@[simp] theorem jumpTo_withOlder (a : Word) : (withOlder tr s).jumpTo a = withOlder tr (s.jumpTo a) := rfl
@[simp] theorem setStatus_withOlder (st : Status) :
    (withOlder tr s).setStatus st = withOlder tr (s.setStatus st) := rfl
@[simp] theorem setDev_withOlder (d : IODevice) : (withOlder tr s).setDev d = withOlder tr (s.setDev d) := rfl
@[simp] theorem faulted_withOlder (e : ErrorRecord) : (withOlder tr s).faulted e = withOlder tr (s.faulted e) := rfl
@[simp] theorem haltWith_withOlder (c : Word) : (withOlder tr s).haltWith c = withOlder tr (s.haltWith c) := rfl
@[simp] theorem putChar_withOlder (c : Byte) : (withOlder tr s).putChar c = withOlder tr (s.putChar c) := rfl

@[simp] theorem setReg_withOlder (i : RegIdx) (v : Word) :
    (withOlder tr s).setReg i v = withOlder tr (s.setReg i v) := by
  unfold State.setReg
  split <;> rfl

@[simp] theorem writeReg_withOlder (i : RegIdx) (v : Word) :
    (withOlder tr s).writeReg i v = withOlder tr (s.writeReg i v) := by
  simp [State.writeReg]

@[simp] theorem incrementIP_withOlder : (withOlder tr s).incrementIP = withOlder tr s.incrementIP := by
  cases h : s.jumped <;> simp [State.incrementIP, withOlder, h]

@[simp] theorem preview_withOlder (p : Word) : (withOlder tr s).preview p = withOlder tr (s.preview p) := by
  unfold State.preview
  split <;> rfl

/-- The end of a step emits by the status and the error alone (R115 to R117). -/
@[simp] theorem endStep_withOlder : (withOlder tr s).endStep = withOlder tr s.endStep := by
  cases h : s.status with
  | running => simp [endStep_running, h]
  | blocked => simp [endStep_blocked, h]
  | halted => by_cases he : s.lastError = none <;> simp [endStep_halted, h, he]

end Updates

/-! ### The operations a meaning is built of -/

/-- A meaning that always goes on in the state `f` gives. -/
theorem next_traceBlind {f : State → State} (hf : ∀ tr s, f (withOlder tr s) = withOlder tr (f s)) :
    TraceBlind fun s => .next (f s) := fun tr s => congrArg Host.Outcome.next (hf tr s)

theorem raise_traceBlind (e : ErrorRecord) : TraceBlind (raise e) := fun tr s => by simp

theorem readReg_traceBlind (i : RegIdx) {k : Word → State → Result} (hk : ∀ v, TraceBlind (k v)) :
    TraceBlind fun s => readReg i s k := fun tr s => hk (s.reg i) tr (s.emit (.regRead i (s.reg i)))

theorem memRead_traceBlind (a : Word) (n : Width) {k : Word → State → Result} (hk : ∀ v, TraceBlind (k v)) :
    TraceBlind fun s => memRead a n s k := by
  intro tr s
  cases h : accessError a n with
  | some e => simp [memRead_fault h]
  | none =>
    simp only [memRead_ok h]
    exact hk (s.mem.read a n) tr (s.emit (.memRead a n (s.mem.read a n)))

theorem memWrite_traceBlind (a : Word) (n : Width) (v : Word) {k : State → Result} (hk : TraceBlind k) :
    TraceBlind fun s => memWrite a n v s k := by
  intro tr s
  cases h : accessError a n with
  | some e => simp [memWrite, h]
  | none =>
    cases hp : Memory.pageFails s.cfg.pageCapacity s.mem a with
    | true => simp [memWrite, h, hp]
    | false =>
      simp only [memWrite_ok h hp, memWrite_ok h (s := withOlder tr s) hp]
      exact hk tr ((s.setMem (s.mem.write a n v)).emit (.memWrite a n v))

theorem dispAddress_traceBlind (d : Word) (y : RegIdx) {k : Word → State → Result} (hk : ∀ ea, TraceBlind (k ea)) :
    TraceBlind fun s => dispAddress d y s k :=
  readReg_traceBlind y fun base => hk (d + base)

theorem scaledAddress_traceBlind (scale : Nat) (x y : RegIdx) {k : Word → State → Result}
    (hk : ∀ ea, TraceBlind (k ea)) : TraceBlind fun s => scaledAddress scale x y s k :=
  readReg_traceBlind x fun base => readReg_traceBlind y fun index tr s =>
    hk (base + scaledIndex s.cfg.scaleRule index scale) tr s

/-! ### The shared ends of the meanings -/

theorem haltWith_traceBlind (c : Word) : TraceBlind fun s => .next (s.haltWith c) :=
  next_traceBlind fun tr s => haltWith_withOlder tr s c

theorem putChar_traceBlind (c : Byte) : TraceBlind fun s => .next (s.putChar c) :=
  next_traceBlind fun tr s => putChar_withOlder tr s c

theorem loadAt_traceBlind (n : Width) (ext : Word → Word) (z : RegIdx) (ea : Word) : TraceBlind (loadAt n ext z ea) :=
  memRead_traceBlind ea n fun v => next_traceBlind fun tr s => writeReg_withOlder tr s z (ext v)

theorem storeAt_traceBlind (n : Width) (z : RegIdx) (ea : Word) : TraceBlind (storeAt n z ea) :=
  readReg_traceBlind z fun v => memWrite_traceBlind ea n v (next_traceBlind fun _ _ => rfl)

theorem addInto_traceBlind (a b : Word) (z : RegIdx) : TraceBlind (addInto a b z) :=
  next_traceBlind fun tr s => by simp

theorem subInto_traceBlind (a b : Word) (z : RegIdx) : TraceBlind (subInto a b z) :=
  next_traceBlind fun tr s => by simp

theorem mulInto_traceBlind (a b : Word) (z : RegIdx) : TraceBlind (mulInto a b z) :=
  next_traceBlind fun tr s => by simp

/-- `DivU` checks the indices, reads the pair, checks the divisor and writes (R157): none of it asks for the record. -/
theorem divU_traceBlind (d : Word) (r q : RegIdx) : TraceBlind (divU d r q) := by
  intro tr s
  unfold divU
  split
  · exact raise_traceBlind _ tr s
  · refine readReg_traceBlind r (fun lo => readReg_traceBlind (r + 1) fun hi tr s => ?_) tr s
    split
    · exact raise_traceBlind _ tr s
    · simp

/-- `DivS` checks the index, then the divisor, and writes (R160). -/
theorem divS_traceBlind (d n : Word) (q : RegIdx) : TraceBlind (divS d n q) := by
  intro tr s
  unfold divS
  split
  · exact raise_traceBlind _ tr s
  · split
    · exact raise_traceBlind _ tr s
    · simp

theorem writeWithZf_traceBlind (z : RegIdx) (v : Word) : TraceBlind (writeWithZf z v) :=
  next_traceBlind fun tr s => by simp

theorem shiftLeftInto_traceBlind (a v : Word) (z : RegIdx) : TraceBlind (shiftLeftInto a v z) :=
  next_traceBlind fun tr s => by simp

/-- A register write of a value that the shift mode decides: the right shifts (R137 to R140). -/
theorem writeShifted_traceBlind (shift : ShiftMode → Word) (z : RegIdx) :
    TraceBlind fun s => .next (s.writeReg z (shift s.cfg.shiftMode)) :=
  next_traceBlind fun tr s => writeReg_withOlder tr s z (shift s.cfg.shiftMode)

theorem jumpRelativeIf_traceBlind (cond : Flags → Bool) (v : Word) :
    TraceBlind fun s => jumpRelativeIf (cond s.flags) v s :=
  next_traceBlind fun tr s => by cases h : cond s.flags <;> simp [h]

theorem execJmpAbs_traceBlind (x y : RegIdx) : TraceBlind (execJmpAbs x y) := by
  intro tr s
  rw [execJmpAbs, withOlder_pc, writeReg_withOlder]
  exact readReg_traceBlind x (fun t => next_traceBlind fun tr s => jumpTo_withOlder tr s t) tr _

/-- GETC takes a character or blocks, by the device's input alone (R274). -/
theorem execGetc_traceBlind (x : RegIdx) : TraceBlind (execGetc x) := by
  intro tr s
  unfold execGetc
  rw [withOlder_dev]
  split <;> simp

/-! ### Every instruction, and the step -/

theorem exec_traceBlind (i : Instr) : TraceBlind (exec i) := by
  cases i
  case haltR x => exact readReg_traceBlind x fun v => haltWith_traceBlind v
  case haltI u => exact haltWith_traceBlind u
  case nop => exact next_traceBlind fun _ _ => rfl
  case addRR x y z => exact readReg_traceBlind x fun a => readReg_traceBlind y fun b => addInto_traceBlind a b z
  case addIR u y z => exact readReg_traceBlind y fun b => addInto_traceBlind u b z
  case subRR x y z => exact readReg_traceBlind x fun a => readReg_traceBlind y fun b => subInto_traceBlind a b z
  case subIR u y z => exact readReg_traceBlind y fun b => subInto_traceBlind u b z
  case mulRR x y z => exact readReg_traceBlind x fun a => readReg_traceBlind y fun b => mulInto_traceBlind a b z
  case mulRI x v z => exact readReg_traceBlind x fun a => mulInto_traceBlind a v z
  case divuRR x y z => exact readReg_traceBlind x fun d => divU_traceBlind d y z
  case divuIR u y z => exact divU_traceBlind u y z
  case idivRR x y z => exact readReg_traceBlind x fun d => readReg_traceBlind y fun n => divS_traceBlind d n z
  case idivIR v y z => exact readReg_traceBlind y fun n => divS_traceBlind v n z
  case andRR x y z =>
    exact readReg_traceBlind x fun a => readReg_traceBlind y fun b => writeWithZf_traceBlind z (a &&& b)
  case orRR x y z =>
    exact readReg_traceBlind x fun a => readReg_traceBlind y fun b => writeWithZf_traceBlind z (a ||| b)
  case notRR x y => exact readReg_traceBlind x fun a => writeWithZf_traceBlind y (~~~a)
  case ldiu u z | ldis u z => exact writeWithZf_traceBlind z u
  case shldi u z => exact readReg_traceBlind z fun old => writeWithZf_traceBlind z ((old <<< 16) + u)
  case shlRR x y z => exact readReg_traceBlind x fun a => readReg_traceBlind y fun v => shiftLeftInto_traceBlind a v z
  case shlIR u y z => exact readReg_traceBlind y fun v => shiftLeftInto_traceBlind u v z
  case shrRR x y z =>
    exact readReg_traceBlind x fun a => readReg_traceBlind y fun v =>
      writeShifted_traceBlind (shiftRightLogical · v a) z
  case shrIR u y z => exact readReg_traceBlind y fun v => writeShifted_traceBlind (shiftRightLogical · v u) z
  case sarRR x y z =>
    exact readReg_traceBlind x fun a => readReg_traceBlind y fun v => writeShifted_traceBlind (shiftRightArith · v a) z
  case sarIR u y z => exact readReg_traceBlind y fun v => writeShifted_traceBlind (shiftRightArith · v u) z
  case getc x => exact execGetc_traceBlind x
  case putcR x => exact readReg_traceBlind x fun v => putChar_traceBlind (v.setWidth 8)
  case putcI u => exact putChar_traceBlind (u.setWidth 8)
  case jmpAbs x y => exact execJmpAbs_traceBlind x y
  case jmp v => exact jumpRelativeIf_traceBlind (fun _ => true) v
  case ja v => exact jumpRelativeIf_traceBlind condA v
  case jbe v => exact jumpRelativeIf_traceBlind condBE v
  case jae v => exact jumpRelativeIf_traceBlind condAE v
  case jb v => exact jumpRelativeIf_traceBlind condB v
  case jg v => exact jumpRelativeIf_traceBlind condG v
  case jle v => exact jumpRelativeIf_traceBlind condLE v
  case jge v => exact jumpRelativeIf_traceBlind condGE v
  case jl v => exact jumpRelativeIf_traceBlind condL v
  case jz v => exact jumpRelativeIf_traceBlind condZ v
  case jnz v => exact jumpRelativeIf_traceBlind condNZ v
  case ldu1D d y z | ldu2D d y z | ldu4D d y z | ld8D d y z | lds1D d y z | lds2D d y z | lds4D d y z =>
    exact dispAddress_traceBlind d y (loadAt_traceBlind _ _ z)
  case st1D d y z | st2D d y z | st4D d y z | st8D d y z =>
    exact dispAddress_traceBlind d y (storeAt_traceBlind _ z)
  case ldu1S1 x y z | ldu2S1 x y z | ldu4S1 x y z | ld8S1 x y z | lds1S1 x y z | lds2S1 x y z | lds4S1 x y z
      | ldu1S2 x y z | ldu2S2 x y z | ldu4S2 x y z | ld8S2 x y z | lds1S2 x y z | lds2S2 x y z | lds4S2 x y z
      | ldu1S4 x y z | ldu2S4 x y z | ldu4S4 x y z | ld8S4 x y z | lds1S4 x y z | lds2S4 x y z | lds4S4 x y z
      | ldu1S8 x y z | ldu2S8 x y z | ldu4S8 x y z | ld8S8 x y z | lds1S8 x y z | lds2S8 x y z | lds4S8 x y z =>
    exact scaledAddress_traceBlind _ x y (loadAt_traceBlind _ _ z)
  case st1S1 x y z | st2S1 x y z | st4S1 x y z | st8S1 x y z | st1S2 x y z | st2S2 x y z | st4S2 x y z | st8S2 x y z
      | st1S4 x y z | st2S4 x y z | st4S4 x y z | st8S4 x y z | st1S8 x y z | st2S8 x y z | st4S8 x y z
      | st8S8 x y z =>
    exact scaledAddress_traceBlind _ x y (storeAt_traceBlind _ z)

/-- The fetch emits its read and sets IR, whatever was traced before (R111). -/
theorem fetch_traceBlind {k : InstrWord → State → Result} (hk : ∀ w, TraceBlind (k w)) :
    TraceBlind fun s => fetch s k := fun tr s =>
  memRead_traceBlind s.pc .b4 (fun v tr s => hk (v.setWidth 32) tr (s.setIr (v.setWidth 32))) tr s

theorem illegalOpcode_traceBlind (w : InstrWord) : TraceBlind (illegalOpcode w) := fun tr s =>
  raise_traceBlind (.illegalInstruction (opcodeBits w) s.pc) tr s

theorem finishStep_traceBlind {m : State → Result} (hm : TraceBlind m) : TraceBlind fun s => finishStep (m s) := by
  intro tr s
  simp only [hm tr s]
  cases m s with
  | next t => simp [finishStep]
  | fault r => rfl
  | refused r => rfl

/-- The whole step (R123): nothing in HALTED; else the fetch, then the decoded instruction or the illegal opcode. -/
theorem step_traceBlind : TraceBlind step := by
  intro tr s
  by_cases h : s.status = .halted
  · rw [step_halted h, step_halted (s := withOlder tr s) h, resultWithOlder_next]
  · rw [step_not_halted h, step_not_halted (s := withOlder tr s) h]
    refine fetch_traceBlind (fun w tr s => ?_) tr s
    rw [withOlder_cfg]
    cases decodeWord s.cfg.opmap w with
    | ok i => exact finishStep_traceBlind (exec_traceBlind i) tr s
    | error e => exact illegalOpcode_traceBlind w tr s

/-- Settles O49: the step and every instruction's meaning are trace-blind, and the record `tr` is `tr` below an empty
record (R18). -/
theorem traceHasNoInfluence : Obligations.TraceHasNoInfluence :=
  ⟨fun _ _ tr h => step_traceBlind.next_of_untraced tr h,
    fun i _ _ tr h => (exec_traceBlind i).next_of_untraced tr h⟩

end Sys2Proof.Laws.TraceBlindness
end

section
/-!
PROOF. The memory read (R55, R57): its checks read off the address's offset in its page; the value of `n` bytes as a number
is their big-endian number, which fits in `8 n` bits; and a byte of a page that is not allocated reads as zero.
-/

namespace Sys2Proof.Laws.MemoryRead

open Sys2Proof Sys2Proof.Machine

/-! ### The checks of an access (R53, R54) -/

theorem accessError_misaligned {a : Word} {n : Width} (h : a.toNat % 1024 % widthBytes n ≠ 0) :
    accessError a n = some (.memoryMisaligned a n) := if_pos h

theorem accessError_outOfBounds {a : Word} {n : Width} (hal : a.toNat % 1024 % widthBytes n = 0)
    (h : a.toNat % 1024 + widthBytes n > 1024) : accessError a n = some (.memoryOutOfBounds a n) :=
  (if_neg (not_not.mpr hal)).trans (if_pos h)

theorem accessError_none {a : Word} {n : Width} (hal : a.toNat % 1024 % widthBytes n = 0)
    (h : a.toNat % 1024 + widthBytes n ≤ 1024) : accessError a n = none :=
  (if_neg (not_not.mpr hal)).trans (if_neg (Nat.not_lt.mpr h))

/-! ### The value of a read as a number (R52) -/

/-- Shifting the bits of a number left, whatever of it the word drops. -/
theorem ofNat_shiftLeft (w v i : Nat) : BitVec.ofNat w (v <<< i) = BitVec.ofNat w v <<< i := by
  apply BitVec.eq_of_toNat_eq
  simp [Nat.shiftLeft_eq]

/-- Appending a byte at the low end: `<<` and `|` on words are `* 256` and `+` on numbers. -/
theorem ofNat_append_byte (v : Nat) (b : Byte) :
    BitVec.ofNat 64 (v * 256 + b.toNat) = (BitVec.ofNat 64 v <<< 8) ||| b.setWidth 64 :=
  calc BitVec.ofNat 64 (v * 256 + b.toNat)
      = BitVec.ofNat 64 (v <<< 8 + b.toNat) := by rw [Nat.shiftLeft_eq]
    _ = BitVec.ofNat 64 (v <<< 8 ||| b.toNat) := by rw [Nat.shiftLeft_add_eq_or_of_lt b.isLt]
    _ = (BitVec.ofNat 64 v <<< 8) ||| b.setWidth 64 := by
      rw [BitVec.ofNat_or, ofNat_shiftLeft, BitVec.ofNat_toNat]

/-- The model's value of `n` bytes is their big-endian number as a word (R52). -/
theorem bytesValue_eq_ofNat (m : Memory) (a n : Nat) : bytesValue m a n = BitVec.ofNat 64 (bigEndian m a n) := by
  induction n with
  | zero => rfl
  | succ n ih => rw [bytesValue, bigEndian, ofNat_append_byte, ih]

theorem read_eq_ofNat (m : Memory) (a : Word) (n : Width) :
    m.read a n = BitVec.ofNat 64 (bigEndian m a.toNat (widthBytes n)) := bytesValue_eq_ofNat m a.toNat (widthBytes n)

/-- `n` bytes hold a number of `8 n` bits, so a read of up to 8 of them is zero-extended and loses nothing (R55). -/
theorem bigEndian_lt (m : Memory) (a n : Nat) : bigEndian m a n < 2 ^ (8 * n) := by
  induction n with
  | zero => simp [bigEndian]
  | succ n ih =>
    have hb : (m.byte (a + n)).toNat < 256 := (m.byte (a + n)).isLt
    have hpow : 2 ^ (8 * (n + 1)) = 2 ^ (8 * n) * 256 := by rw [Nat.mul_succ, Nat.pow_add]
    rw [bigEndian, hpow]
    omega

/-- Bytes that are all zero are the number zero. -/
theorem bigEndian_eq_zero {m : Memory} {a n : Nat} (h : ∀ i, i < n → m.byte (a + i) = 0) : bigEndian m a n = 0 := by
  induction n with
  | zero => rfl
  | succ n ih =>
    rw [bigEndian, ih fun i hi => h i (Nat.lt_succ_of_lt hi), h n (Nat.lt_succ_self n)]
    rfl

/-! ### Reads of a page that is not allocated (R57) -/

/-- An address that no cell lists reads as an unlisted address does. -/
theorem cellAt_not_listed {cells : List Host.Cell} {x : Nat} (h : ∀ p ∈ cells, p.1 ≠ x) :
    cellAt cells x = Memory.unlisted := by
  induction cells with
  | nil => rfl
  | cons p cells ih =>
    rw [cellAt, if_neg (h p List.mem_cons_self).symm]
    exact ih fun q hq => h q (List.mem_cons_of_mem p hq)

/-- In canonical memory every listed cell lies in an allocated page, so a byte of any other page is zero (R37, R57). -/
theorem byte_eq_zero_of_page_not_mem {m : Memory} (hm : m.wf) {x : Nat} (hx : x / pageSize ∉ m.pages) : m.byte x = 0 := by
  obtain ⟨-, hcells, -, -⟩ := hm
  refine cellAt_not_listed fun p hp hpx => hx ?_
  obtain ⟨-, -, hpage⟩ := hcells p hp
  exact hpx ▸ hpage

/-- A span inside a page that is not allocated holds the number zero (R57). -/
theorem bigEndian_eq_zero_of_page_not_mem {m : Memory} (hm : m.wf) {a n : Nat} (hspan : a % 1024 + n ≤ 1024)
    (ha : a / 1024 ∉ m.pages) : bigEndian m a n = 0 := by
  refine bigEndian_eq_zero fun i hi => byte_eq_zero_of_page_not_mem hm ?_
  have hpage : (a + i) / pageSize = a / 1024 := by
    rw [pageSize]
    omega
  rwa [hpage]

/-! ### MemRead -/

/-- Settles O8: the two checks in the order of R55, the value through `read_eq_ofNat`, and R57's zero from the canonical
form. -/
theorem memReadPrimitive : Obligations.MemReadPrimitive := by
  refine ⟨fun a n s k => ?_, fun a n m hm hspan ha => bigEndian_eq_zero_of_page_not_mem hm hspan ha,
    fun m a n => bigEndian_lt m a (widthBytes n)⟩
  split
  case isTrue hmis => exact memRead_fault (accessError_misaligned hmis) s k
  case isFalse hal =>
    have hal := not_not.mp hal
    split
    case isTrue hout => exact memRead_fault (accessError_outOfBounds hal hout) s k
    case isFalse hin => rw [memRead_ok (accessError_none hal (Nat.not_lt.mp hin)), read_eq_ofNat]

end Sys2Proof.Laws.MemoryRead
end

section
/-!
PROOF. The operand decoder's values as numbers (R82): each operand field is a quotient and remainder of the 24 bits, and the
two extensions (R10) keep the number, as an unsigned and as a two's-complement value.
-/

namespace Sys2Proof.Laws.OperandValues

open Sys2Proof Sys2Proof.Machine

/-! ### The operand fields as numbers (R81) -/

theorem toNat_byteX (f : OperandField) : (byteX f).toNat = f.toNat / 65536 := by
  have hf : f.toNat < 2 ^ 24 := f.isLt
  rw [byteX, BitVec.extractLsb'_toNat, Nat.shiftRight_eq_div_pow]
  omega

theorem toNat_byteY (f : OperandField) : (byteY f).toNat = f.toNat / 256 % 256 := by
  rw [byteY, BitVec.extractLsb'_toNat, Nat.shiftRight_eq_div_pow]

theorem toNat_byteZ (f : OperandField) : (byteZ f).toNat = f.toNat % 256 := by
  rw [byteZ, BitVec.extractLsb'_toNat, Nat.shiftRight_zero]

theorem toNat_halfXY (f : OperandField) : (halfXY f).toNat = f.toNat / 256 := by
  have hf : f.toNat < 2 ^ 24 := f.isLt
  rw [halfXY, BitVec.extractLsb'_toNat, Nat.shiftRight_eq_div_pow]
  omega

/-! ### The two extensions (R10) -/

theorem toNat_zeroExt {n : Nat} (hn : n ≤ 64) (f : BitVec n) : (zeroExt f).toNat = f.toNat :=
  BitVec.toNat_setWidth_of_le hn

/-- The sign bit of `n` bytes, read as a comparison with half their range, decides their two's-complement value. -/
theorem toInt_eq_signedBytes {n : Nat} (f : BitVec (8 * n)) : f.toInt = signedBytes n f.toNat := by
  rw [BitVec.toInt_eq_msb_cond, BitVec.msb_eq_decide, signedBytes]
  by_cases hneg : 2 ^ (8 * n - 1) ≤ f.toNat
  · simp [hneg, Nat.not_lt.mpr hneg]
  · simp [hneg, Nat.not_le.mp hneg]

theorem toInt_signExt {n : Nat} (hn : 8 * n ≤ 64) (f : BitVec (8 * n)) : (signExt f).toInt = signedBytes n f.toNat :=
  (BitVec.toInt_signExtend_of_le hn).trans (toInt_eq_signedBytes f)

/-! ### The nine values -/

/-- Settles O4: each value is an operand field's number, kept by its extension; the worked example is evaluated. -/
theorem operandDecoderNineValues : Obligations.OperandDecoderNineValues := by
  refine ⟨fun f => ⟨toNat_byteX f, toNat_byteY f, toNat_byteZ f, ?uX, ?uXY, ?sX, ?sY, ?sXY, ?sXYZ⟩, by decide⟩
  case uX => exact (toNat_zeroExt (by decide) (byteX f)).trans (toNat_byteX f)
  case uXY => exact (toNat_zeroExt (by decide) (halfXY f)).trans (toNat_halfXY f)
  case sX => exact toNat_byteX f ▸ toInt_signExt (n := 1) (by decide) (byteX f)
  case sY => exact toNat_byteY f ▸ toInt_signExt (n := 1) (by decide) (byteY f)
  case sXY => exact toNat_halfXY f ▸ toInt_signExt (n := 2) (by decide) (halfXY f)
  case sXYZ => exact toInt_signExt (n := 3) (by decide) f

end Sys2Proof.Laws.OperandValues
end

section
/-!
PROOF. The step on an opcode OPMAP does not map (R113): an aligned fetch hands on the word of the four bytes at pc (R52,
R111), whose opcode is the byte at pc (R80); with no kind for it the step is the fault raised in the fetched state.
-/

namespace Sys2Proof.Laws.IllegalOpcode

open Sys2Proof Sys2Proof.Machine Sys2Proof.Claims

/-! ### The word four bytes hold (R52, R80) -/

/-- The opcode of a word is its first byte (R80). -/
@[simp] theorem opcodeBits_wordAt (m : Memory) (a : Nat) : opcodeBits (wordAt m a) = m.byte a := by
  apply BitVec.eq_of_getLsbD_eq
  intro i hi
  simp [opcodeBits, wordAt, wordOfBytes]
  grind

/-- A four-byte read is the word at its address, zero-extended (R52, R55). -/
theorem read_b4_eq_wordAt (m : Memory) (a : Word) : m.read a .b4 = (wordAt m a.toNat).setWidth 64 := by
  apply BitVec.eq_of_getLsbD_eq
  intro i hi
  simp [Memory.read, widthBytes, bytesValue, wordAt, wordOfBytes]
  grind

/-- Narrowing the value of a four-byte read to a word gives the word back. -/
theorem setWidth_setWidth_word (w : InstrWord) : (w.setWidth 64).setWidth 32 = w := by
  rw [BitVec.setWidth_setWidth_of_le w (by decide), BitVec.setWidth_eq]

/-! ### The fetch at an aligned pc (R111) -/

/-- What follows an aligned fetch runs on the word at pc, in the fetched state. -/
theorem fetch_aligned {s : State} (hpc : s.pc.toNat % 4 = 0) (k : InstrWord → State → Result) :
    fetch s k = k (wordAt s.mem s.pc.toNat) (fetched s) := by
  have hok : accessError s.pc .b4 = none := (accessError_power (.inr (.inr (.inl rfl))) s.pc).trans (if_pos hpc)
  rw [fetch, memRead_ok hok, read_b4_eq_wordAt, setWidth_setWidth_word, fetched]

@[simp] theorem fetched_pc (s : State) : (fetched s).pc = s.pc := rfl
@[simp] theorem fetched_cfg (s : State) : (fetched s).cfg = s.cfg := rfl

/-- A fault in the fetched state leaves alone what a fault leaves alone: the fetch wrote only IR and the trace. -/
theorem sameButFault_faulted_fetched (s : State) (e : ErrorRecord) : s.SameButFault ((fetched s).faulted e) :=
  ⟨rfl, rfl, rfl, rfl, rfl, rfl, rfl, rfl⟩

/-- The events of a fault in the fetched state: the fetch's read, then the halt with the stale exit code (R305). -/
theorem traced_faulted_fetched (s : State) (e : ErrorRecord) :
    s.Traced ((fetched s).faulted e)
      [.memRead s.pc .b4 ((wordAt s.mem s.pc.toNat).setWidth 64), .halt s.exitCode (some e)] := rfl

/-! ### The decode and the step (R113) -/

theorem decodeWord_unmapped {m : OpMap} {w : InstrWord} (h : m.kindAt (opcodeBits w) = none) :
    decodeWord m w = .error (.illegalOpcode (opcodeBits w)) := by
  simp only [decodeWord, h]

/-- The step on an unmapped opcode is the fault IllegalInstruction in the fetched state. -/
theorem step_unmapped {s : State} (hrun : s.status ≠ .halted) (hpc : s.pc.toNat % 4 = 0)
    (hmap : s.cfg.opmap.kindAt (s.mem.byte s.pc.toNat) = none) :
    step s = .next ((fetched s).faulted (.illegalInstruction (s.mem.byte s.pc.toNat) s.pc)) := by
  have hdecode : decodeWord s.cfg.opmap (wordAt s.mem s.pc.toNat) = .error (.illegalOpcode _) :=
    decodeWord_unmapped (by rwa [opcodeBits_wordAt])
  rw [step_not_halted hrun, fetch_aligned hpc]
  simp only [fetched_cfg, hdecode, illegalOpcode, raise_eq, opcodeBits_wordAt, fetched_pc]

/-- Settles O43: the step is the fault IllegalInstruction in the fetched state, where IR holds the word and the trace
ends with its read. -/
theorem illegalOpcodeHalts : Obligations.IllegalOpcodeHalts := fun s hrun hpc hmap =>
  ⟨_, step_unmapped hrun hpc hmap, rfl, rfl, sameButFault_faulted_fetched s _, rfl, traced_faulted_fetched s _⟩

end Sys2Proof.Laws.IllegalOpcode
end

section
/-!
PROOF. What the writes of a register, of flags and of the trace leave as it was: the frame of every instruction that changes
only general registers and flags.
-/

namespace Sys2Proof.Laws.RegisterEffects

open Sys2Proof Sys2Proof.Machine

/-! ### The general registers (R11, R21) -/

/-- What registers read as is a matter of the register file alone. -/
theorem reg_eq_of_regs {s s' : State} (h : s'.regs = s.regs) (j : RegIdx) : s'.reg j = s.reg j := by
  simp only [State.reg, h]

/-- `x[i] <- v`: a write to x[0] is discarded, and no other register is touched. -/
theorem writesReg_writeReg (s : State) (i : RegIdx) (v : Word) : s.WritesReg (s.writeReg i v) i v where
  written := by by_cases hi : i = 0#8 <;> simp [hi]
  others j hj := by simp [hj]
  slotZero := writeReg_regs_zero s i v

/-- Steps before and after the write that keep the register file keep its effect. -/
theorem writesReg_of_regs {s t s' t' : State} {i : RegIdx} {v : Word} (h : s.WritesReg t i v) (hs : s'.regs = s.regs)
    (ht : t'.regs = t.regs) : s'.WritesReg t' i v where
  written := (reg_eq_of_regs ht i).trans h.written
  others j hj := by rw [reg_eq_of_regs ht, reg_eq_of_regs hs, h.others j hj]
  slotZero := by rw [ht, hs, h.slotZero]

/-! ### Everything but registers, flags and the trace -/

theorem sameButRegsFlags_trans {s t u : State} (hst : s.SameButRegsFlags t) (htu : t.SameButRegsFlags u) :
    s.SameButRegsFlags u where
  control :=
    { ir := htu.control.ir.trans hst.control.ir
      status := htu.control.status.trans hst.control.status
      exitCode := htu.control.exitCode.trans hst.control.exitCode
      lastError := htu.control.lastError.trans hst.control.lastError
      cfg := htu.control.cfg.trans hst.control.cfg
      pc := htu.control.pc.trans hst.control.pc
      jumped := htu.control.jumped.trans hst.control.jumped }
  memory :=
    { bytes := fun a => (htu.memory.bytes a).trans (hst.memory.bytes a)
      pages := htu.memory.pages.trans hst.memory.pages }
  dev := htu.dev.trans hst.dev

theorem sameButRegsFlags_emit (s : State) (e : TraceEvent) : s.SameButRegsFlags (s.emit e) where
  control := { ir := rfl, status := rfl, exitCode := rfl, lastError := rfl, cfg := rfl, pc := rfl, jumped := rfl }
  memory := { bytes := fun _ => rfl, pages := rfl }
  dev := rfl

theorem sameButRegsFlags_setFlags (s : State) (f : Flags) : s.SameButRegsFlags (s.setFlags f) where
  control := { ir := rfl, status := rfl, exitCode := rfl, lastError := rfl, cfg := rfl, pc := rfl, jumped := rfl }
  memory := { bytes := fun _ => rfl, pages := rfl }
  dev := rfl

theorem sameButRegsFlags_writeReg (s : State) (i : RegIdx) (v : Word) : s.SameButRegsFlags (s.writeReg i v) where
  control :=
    { ir := writeReg_ir s i v
      status := writeReg_status s i v
      exitCode := writeReg_exitCode s i v
      lastError := writeReg_lastError s i v
      cfg := writeReg_cfg s i v
      pc := writeReg_pc s i v
      jumped := writeReg_jumped s i v }
  memory := { bytes := fun a => by rw [writeReg_mem], pages := by rw [writeReg_mem] }
  dev := writeReg_dev s i v

end Sys2Proof.Laws.RegisterEffects
end

section
/-!
PROOF. The immediate loads and SHLDI (R130, R131, R132): the word of a 16-bit immediate and a register decodes to them (R82,
R90), and each ends with one write of a register and ZF, which SHLDI makes after reading the register it writes.
-/

namespace Sys2Proof.Laws.ImmediateLoads

open Sys2Proof Sys2Proof.Machine Sys2Proof.Claims Sys2Proof.Laws.RegisterEffects

/-! ### The word of an opcode, a 16-bit immediate and a register (R87, formats U16R and S16R) -/

@[simp] theorem uXY_packHalf (h : BitVec 16) (z : Byte) : (decodeOperands (packHalf h z)).uXY = zeroExt h :=
  congrArg zeroExt (halfXY_packHalf h z)

@[simp] theorem sXY_packHalf (h : BitVec 16) (z : Byte) : (decodeOperands (packHalf h z)).sXY = signExt h :=
  congrArg signExt (halfXY_packHalf h z)

@[simp] theorem rZ_packHalf (h : BitVec 16) (z : Byte) : (decodeOperands (packHalf h z)).rZ = z := byteZ_packHalf h z

/-- A mapped opcode over a field is what its kind assembles of the field's operands (R84). -/
theorem decodeWord_append {m : OpMap} {op : Byte} {k : Kind} (hk : m.kindAt op = some k) (f : OperandField) :
    decodeWord m (op ++ f : InstrWord) = .ok (k.assemble (decodeOperands f)) := by
  simp only [decodeWord, opcodeBits_append, fieldBits_append, hk]

theorem encodes_half {op : Byte} {k : Kind} (hk : refOpmap.kindAt op = some k) (h : BitVec 16) (z : Byte) :
    Encodes (op ++ h ++ z) (k.assemble (decodeOperands (packHalf h z))) := by
  have hword : (op ++ h ++ z : InstrWord) = (op ++ packHalf h z : InstrWord) := BitVec.append_assoc
  rw [Encodes, hword, decodeWord_append hk]

theorem encodes_ldiu (u : BitVec 16) (z : Byte) : Encodes (0x28#8 ++ u ++ z) (.ldiu (zeroExt u) z) := by
  simpa [Kind.assemble] using encodes_half (op := 0x28#8) (k := .ldiu) (by decide) u z

theorem encodes_ldis (v : BitVec 16) (z : Byte) : Encodes (0x29#8 ++ v ++ z) (.ldis (signExt v) z) := by
  simpa [Kind.assemble] using encodes_half (op := 0x29#8) (k := .ldis) (by decide) v z

theorem encodes_shldi (u : BitVec 16) (z : Byte) : Encodes (0x2A#8 ++ u ++ z) (.shldi (zeroExt u) z) := by
  simpa [Kind.assemble] using encodes_half (op := 0x2A#8) (k := .shldi) (by decide) u z

/-! ### The write of a register and ZF -/

/-- ZF comes from the value even where x[0] discards it (R130). -/
theorem writesWithZf_setZf_writeReg (z : RegIdx) (v : Word) (s : State) :
    WritesWithZf v z s ((s.writeReg z v).setZf (isZero v)) := by
  refine ⟨?reg, ?flags, ?rest⟩
  case reg => exact writesReg_of_regs (writesReg_writeReg s z v) rfl rfl
  case flags => rw [setZf_flags, writeReg_flags, isZero, beq_eq_decide]
  case rest => exact sameButRegsFlags_trans (sameButRegsFlags_writeReg s z v) (sameButRegsFlags_setFlags _ _)

/-- An event before the write, such as a register read, changes nothing of its effect. -/
theorem writesWithZf_of_emit {v : Word} {z : RegIdx} {s t : State} {e : TraceEvent} (h : WritesWithZf v z (s.emit e) t) :
    WritesWithZf v z s t := by
  obtain ⟨hreg, hflags, hrest⟩ := h
  exact ⟨writesReg_of_regs hreg rfl rfl, hflags, sameButRegsFlags_trans (sameButRegsFlags_emit s e) hrest⟩

/-- `writeWithZf` completes, with its effect and the one event of its write. -/
theorem writeWithZf_completes (z : RegIdx) (v : Word) (s : State) :
    ∃ t, writeWithZf z v s = .next t ∧ WritesWithZf v z s t ∧ s.Traced t [.regWrite z v] :=
  ⟨_, rfl, writesWithZf_setZf_writeReg z v s, writeReg_trace s z v⟩

/-! ### SHLDI's value -/

/-- The shift by 16 and the add are a multiplication and an add modulo 2^64 (R132). -/
theorem shiftLeft_add_eq_ofNat (old u : Word) : (old <<< 16) + u = BitVec.ofNat 64 (old.toNat * 65536 + u.toNat) :=
  calc (old <<< 16) + u
      = BitVec.ofNat 64 (old.toNat <<< 16) + BitVec.ofNat 64 u.toNat := by
        rw [MemoryRead.ofNat_shiftLeft, BitVec.ofNat_toNat, BitVec.ofNat_toNat, BitVec.setWidth_eq, BitVec.setWidth_eq]
    _ = BitVec.ofNat 64 (old.toNat * 65536 + u.toNat) := by rw [← BitVec.ofNat_add, Nat.shiftLeft_eq]

/-! ### The three instructions -/

/-- Settles O13: after the read of x[z], `writeWithZf` runs on the shifted sum, so the read's event stands before the
write's. -/
theorem shiftLeftAndLoad : Obligations.ShiftLeftAndLoad := by
  refine ⟨encodes_shldi, fun u z s => ?_⟩
  rw [← shiftLeft_add_eq_ofNat]
  obtain ⟨t, hexec, heffect, htrace⟩ :=
    writeWithZf_completes z ((s.reg z <<< 16) + u) (s.emit (.regRead z (s.reg z)))
  exact ⟨t, hexec, writesWithZf_of_emit heffect, htrace⟩

/-- Settles O12: both loads are `writeWithZf` of their immediate. -/
theorem immediateLoadsWriteValueAndZf : Obligations.ImmediateLoadsWriteValueAndZf :=
  ⟨encodes_ldiu, encodes_ldis, fun u z s => writeWithZf_completes z u s, fun v z s => writeWithZf_completes z v s⟩

end Sys2Proof.Laws.ImmediateLoads
end

section
/-!
PROOF. The bitwise logic (R170, R171, R172): the word of an opcode and three register bytes decodes to them (R82, R90), and
each reads its sources one after the other and ends with one write of the destination and ZF.
-/

namespace Sys2Proof.Laws.BitwiseLogic

open Sys2Proof Sys2Proof.Machine Sys2Proof.Claims Sys2Proof.Laws.ImmediateLoads

/-! ### The word of an opcode and three register bytes (R87, formats RRR and RR) -/

@[simp] theorem rX_packBytes (x y z : Byte) : (decodeOperands (packBytes x y z)).rX = x := byteX_packBytes x y z

@[simp] theorem rY_packBytes (x y z : Byte) : (decodeOperands (packBytes x y z)).rY = y := byteY_packBytes x y z

@[simp] theorem rZ_packBytes (x y z : Byte) : (decodeOperands (packBytes x y z)).rZ = z := byteZ_packBytes x y z

theorem append_bytes (op x y z : Byte) : (op ++ x ++ y ++ z : InstrWord) = (op ++ packBytes x y z : InstrWord) :=
  calc (op ++ x ++ y ++ z : InstrWord)
      = (op ++ (x ++ y) ++ z : InstrWord) := congrArg (fun h : BitVec 24 => (h ++ z : InstrWord)) BitVec.append_assoc
    _ = (op ++ packBytes x y z : InstrWord) := BitVec.append_assoc

theorem encodes_bytes {op : Byte} {k : Kind} (hk : refOpmap.kindAt op = some k) (x y z : Byte) :
    Encodes (op ++ x ++ y ++ z) (k.assemble (decodeOperands (packBytes x y z))) := by
  rw [Encodes, append_bytes, decodeWord_append hk]

theorem encodes_andRR (x y z : Byte) : Encodes (0x20#8 ++ x ++ y ++ z) (.andRR x y z) := by
  simpa [Kind.assemble] using encodes_bytes (op := 0x20#8) (k := .andRR) (by decide) x y z

theorem encodes_orRR (x y z : Byte) : Encodes (0x21#8 ++ x ++ y ++ z) (.orRR x y z) := by
  simpa [Kind.assemble] using encodes_bytes (op := 0x21#8) (k := .orRR) (by decide) x y z

/-- NOT ignores the Z byte. -/
theorem encodes_notRR (x y z : Byte) : Encodes (0x22#8 ++ x ++ y ++ z) (.notRR x y) := by
  simpa [Kind.assemble] using encodes_bytes (op := 0x22#8) (k := .notRR) (by decide) x y z

/-! ### Reads before the write of a register and ZF -/

/-- The result is a next state: `s` with `v` written to x[z], ZF set from `v`, and `events` recorded. -/
def CompletesWithZf (r : Result) (v : Word) (z : RegIdx) (s : State) (events : List TraceEvent) : Prop :=
  ∃ t, r = .next t ∧ WritesWithZf v z s t ∧ s.Traced t events

/-- An event recorded first is the oldest of the events. -/
theorem traced_cons_of_emit {s t : State} {e : TraceEvent} {events : List TraceEvent} (h : (s.emit e).Traced t events) :
    s.Traced t (e :: events) := by
  rw [State.Traced] at h ⊢
  rw [h, emit_trace, List.reverse_cons, List.append_assoc, List.singleton_append]

/-- A register read adds its event in front and nothing else. -/
theorem completesWithZf_readReg {x z : RegIdx} {v : Word} {s : State} {events : List TraceEvent}
    {k : Word → State → Result}
    (h : CompletesWithZf (k (s.reg x) (s.emit (.regRead x (s.reg x)))) v z (s.emit (.regRead x (s.reg x))) events) :
    CompletesWithZf (readReg x s k) v z s (.regRead x (s.reg x) :: events) := by
  obtain ⟨t, hk, heffect, htrace⟩ := h
  exact ⟨t, (readReg_eq x s k).trans hk, writesWithZf_of_emit heffect, traced_cons_of_emit htrace⟩

theorem exec_andRR (x y z : RegIdx) (s : State) :
    exec (.andRR x y z) s = readReg x s fun a s => readReg y s fun b s => writeWithZf z (a &&& b) s := rfl

theorem exec_orRR (x y z : RegIdx) (s : State) :
    exec (.orRR x y z) s = readReg x s fun a s => readReg y s fun b s => writeWithZf z (a ||| b) s := rfl

theorem exec_notRR (x y : RegIdx) (s : State) :
    exec (.notRR x y) s = readReg x s fun a s => writeWithZf y (~~~a) s := rfl

theorem exec_andRR_completes (x y z : RegIdx) (s : State) :
    CompletesWithZf (exec (.andRR x y z) s) (s.reg x &&& s.reg y) z s
      [.regRead x (s.reg x), .regRead y (s.reg y), .regWrite z (s.reg x &&& s.reg y)] := by
  rw [exec_andRR]
  exact completesWithZf_readReg (completesWithZf_readReg (writeWithZf_completes z _ _))

theorem exec_orRR_completes (x y z : RegIdx) (s : State) :
    CompletesWithZf (exec (.orRR x y z) s) (s.reg x ||| s.reg y) z s
      [.regRead x (s.reg x), .regRead y (s.reg y), .regWrite z (s.reg x ||| s.reg y)] := by
  rw [exec_orRR]
  exact completesWithZf_readReg (completesWithZf_readReg (writeWithZf_completes z _ _))

theorem exec_notRR_completes (x y : RegIdx) (s : State) :
    CompletesWithZf (exec (.notRR x y) s) (~~~s.reg x) y s [.regRead x (s.reg x), .regWrite y (~~~s.reg x)] := by
  rw [exec_notRR]
  exact completesWithZf_readReg (writeWithZf_completes y _ _)

/-! ### The three instructions -/

/-- Settles O22: each is its reads and `writeWithZf` of the bitwise value. -/
theorem logicResults : Obligations.LogicResults := by
  refine ⟨encodes_andRR, encodes_orRR, encodes_notRR, ?and, ?or, ?not⟩
  case and =>
    intro x y z s
    obtain ⟨t, hexec, heffect, htrace⟩ := exec_andRR_completes x y z s
    exact ⟨t, _, hexec, heffect, fun _ _ => BitVec.getLsbD_and, htrace⟩
  case or =>
    intro x y z s
    obtain ⟨t, hexec, heffect, htrace⟩ := exec_orRR_completes x y z s
    exact ⟨t, _, hexec, heffect, fun _ _ => BitVec.getLsbD_or, htrace⟩
  case not =>
    intro x y s
    obtain ⟨t, hexec, heffect, htrace⟩ := exec_notRR_completes x y s
    have hbits (i : Nat) (hi : i < 64) : (~~~s.reg x).getLsbD i = !(s.reg x).getLsbD i := by
      rw [BitVec.getLsbD_not, decide_eq_true hi, Bool.true_and]
    exact ⟨t, _, hexec, heffect, hbits, htrace⟩

end Sys2Proof.Laws.BitwiseLogic
end

section
/-!
PROOF. The ten conditional jumps (R253 to R262): the word of an opcode and a 24-bit offset decodes to its jump (R82, R90),
and each jump is the one relative jump of R251 under its own condition on the flags.
-/

namespace Sys2Proof.Laws.ConditionalJumps

open Sys2Proof Sys2Proof.Machine Sys2Proof.Claims Sys2Proof.Laws.ImmediateLoads

/-! ### The word of an opcode and a 24-bit offset (R87, format J24) -/

/-- Format J24 takes the whole field as its offset, so no byte of it is taken apart. -/
theorem encodes_field {op : Byte} {k : Kind} (hk : refOpmap.kindAt op = some k) (f : OperandField) :
    Encodes (op ++ f) (k.assemble (decodeOperands f)) :=
  decodeWord_append hk f

/-! ### The relative jump (R251, R265) -/

/-- The 64-bit sum is the sum over the integers modulo 2^64 (R8). -/
theorem relativeTarget_eq_ofInt (pc v : Word) : relativeTarget pc v = BitVec.ofInt 64 ((pc.toNat : Int) + 4 * v.toInt) := by
  have hpc : BitVec.ofInt 64 (pc.toNat : Int) = pc := by rw [BitVec.ofInt_natCast, BitVec.ofNat_toNat, BitVec.setWidth_eq]
  have hv : BitVec.ofInt 64 (4 * v.toInt) = 4#64 * v := by rw [BitVec.ofInt_mul, BitVec.ofInt_toInt]; rfl
  rw [relativeTarget, BitVec.ofInt_add, hpc, hv]

theorem jumpEffect_jumpTo (v : Word) (s : State) : JumpEffect true v s (s.jumpTo (relativeTarget s.pc v)) :=
  ⟨relativeTarget_eq_ofInt s.pc v, rfl, rfl, rfl, ⟨rfl, rfl, rfl, rfl, rfl⟩, ⟨fun _ => rfl, rfl⟩, rfl, rfl⟩

theorem jumpEffect_not_taken (v : Word) (s : State) : JumpEffect false v s s :=
  ⟨rfl, rfl, rfl, rfl, ⟨rfl, rfl, rfl, rfl, rfl⟩, ⟨fun _ => rfl, rfl⟩, rfl, rfl⟩

/-- An instruction that is the relative jump under the condition `taken` completes with the effect of that jump. -/
theorem completes_of_exec_eq {i : Instr} {taken : Bool} {v : Word} {s : State} (h : exec i s = jumpRelativeIf taken v s) :
    ∃ t, exec i s = .next t ∧ JumpEffect taken v s t := by
  cases taken with
  | true => exact ⟨_, h, jumpEffect_jumpTo v s⟩
  | false => exact ⟨_, h, jumpEffect_not_taken v s⟩

/-! ### Which condition each jump is taken on -/

theorem exec_ja (v : Word) (s : State) : exec (.ja v) s = jumpRelativeIf (!s.flags.cf && !s.flags.zf) v s := rfl

theorem exec_jbe (v : Word) (s : State) : exec (.jbe v) s = jumpRelativeIf (s.flags.cf || s.flags.zf) v s := rfl

theorem exec_jae (v : Word) (s : State) : exec (.jae v) s = jumpRelativeIf (!s.flags.cf) v s := rfl

theorem exec_jb (v : Word) (s : State) : exec (.jb v) s = jumpRelativeIf s.flags.cf v s := rfl

theorem exec_jg (v : Word) (s : State) :
    exec (.jg v) s = jumpRelativeIf (!s.flags.zf && (s.flags.sf == s.flags.of)) v s := rfl

theorem exec_jle (v : Word) (s : State) :
    exec (.jle v) s = jumpRelativeIf (s.flags.zf || (s.flags.sf != s.flags.of)) v s := rfl

theorem exec_jge (v : Word) (s : State) : exec (.jge v) s = jumpRelativeIf (s.flags.sf == s.flags.of) v s := rfl

theorem exec_jl (v : Word) (s : State) : exec (.jl v) s = jumpRelativeIf (s.flags.sf != s.flags.of) v s := rfl

theorem exec_jz (v : Word) (s : State) : exec (.jz v) s = jumpRelativeIf s.flags.zf v s := rfl

theorem exec_jnz (v : Word) (s : State) : exec (.jnz v) s = jumpRelativeIf (!s.flags.zf) v s := rfl

/-! ### The ten jumps -/

/-- Settles O32: each opcode is mapped to its jump, and each jump is the relative jump under its condition. -/
theorem conditionalJumpsFollowFlags : Obligations.ConditionalJumpsFollowFlags := by
  refine ⟨encodes_field (k := .ja) (by decide), encodes_field (k := .jbe) (by decide),
    encodes_field (k := .jae) (by decide), encodes_field (k := .jb) (by decide), encodes_field (k := .jg) (by decide),
    encodes_field (k := .jle) (by decide), encodes_field (k := .jge) (by decide), encodes_field (k := .jl) (by decide),
    encodes_field (k := .jz) (by decide), encodes_field (k := .jnz) (by decide), fun v s => ?effects⟩
  case effects =>
    exact ⟨completes_of_exec_eq (exec_ja v s), completes_of_exec_eq (exec_jbe v s), completes_of_exec_eq (exec_jae v s),
      completes_of_exec_eq (exec_jb v s), completes_of_exec_eq (exec_jg v s), completes_of_exec_eq (exec_jle v s),
      completes_of_exec_eq (exec_jge v s), completes_of_exec_eq (exec_jl v s), completes_of_exec_eq (exec_jz v s),
      completes_of_exec_eq (exec_jnz v s)⟩

end Sys2Proof.Laws.ConditionalJumps
end

section
/-!
PROOF. The encoder and the decoder against each other (R80 to R88): an opcode map read in both directions, an operand field
taken apart and packed again, and from these that an instruction is what its own word decodes to, and a word what its own
instruction encodes to but for the bits its format ignores.
-/

namespace Sys2Proof.Laws.EncodeDecode

open Sys2Proof Sys2Proof.Machine Sys2Proof.Claims Sys2Proof.Laws.ImmediateLoads

/-! ### The opcode map in both directions (R84, R85) -/

/-- What the map says of an opcode is one of its entries. -/
theorem mem_of_kindAt {m : OpMap} {op : Byte} {k : Kind} (h : m.kindAt op = some k) : (op, k) ∈ m := by
  induction m with
  | nil => simp [OpMap.kindAt] at h
  | cons e m ih =>
    obtain ⟨o, j⟩ := e
    rw [OpMap.kindAt] at h
    split at h
    · simp_all
    · exact List.mem_cons_of_mem _ (ih h)

/-- What the map gives a kind is one of its entries. -/
theorem mem_of_opcodeOf {m : OpMap} {op : Byte} {k : Kind} (h : m.opcodeOf k = some op) : (op, k) ∈ m := by
  induction m with
  | nil => simp [OpMap.opcodeOf] at h
  | cons e m ih =>
    obtain ⟨o, j⟩ := e
    rw [OpMap.opcodeOf] at h
    split at h
    · simp_all
    · exact List.mem_cons_of_mem _ (ih h)

/-- In a map that lists no opcode twice, an entry is what the map says of its opcode. -/
theorem kindAt_of_mem {m : OpMap} {op : Byte} {k : Kind} (hm : (m.map (·.1)).Nodup) (h : (op, k) ∈ m) :
    m.kindAt op = some k := by
  induction m with
  | nil => simp at h
  | cons e m ih =>
    obtain ⟨o, j⟩ := e
    obtain ⟨ho, hm⟩ := List.nodup_cons.mp hm
    rw [OpMap.kindAt]
    rcases List.mem_cons.mp h with heq | hmem
    · simp_all
    · have hne : o ≠ op := fun heq => ho (heq ▸ List.mem_map_of_mem (f := (·.1)) hmem)
      rw [if_neg hne, ih hm hmem]

/-- In a map that lists no kind twice, an entry is what the map gives its kind. -/
theorem opcodeOf_of_mem {m : OpMap} {op : Byte} {k : Kind} (hm : (m.map (·.2)).Nodup) (h : (op, k) ∈ m) :
    m.opcodeOf k = some op := by
  induction m with
  | nil => simp at h
  | cons e m ih =>
    obtain ⟨o, j⟩ := e
    obtain ⟨hj, hm⟩ := List.nodup_cons.mp hm
    rw [OpMap.opcodeOf]
    rcases List.mem_cons.mp h with heq | hmem
    · simp_all
    · have hne : j ≠ k := fun heq => hj (heq ▸ List.mem_map_of_mem (f := (·.2)) hmem)
      rw [if_neg hne, ih hm hmem]

/-- A mapped kind has an opcode. -/
theorem opcodeOf_of_mapsKind {m : OpMap} {k : Kind} (h : m.mapsKind k = true) : ∃ op, m.opcodeOf k = some op := by
  induction m with
  | nil => simp [OpMap.mapsKind] at h
  | cons e m ih =>
    obtain ⟨o, j⟩ := e
    rw [OpMap.opcodeOf]
    by_cases hj : j = k
    · exact ⟨o, if_pos hj⟩
    · rw [if_neg hj]
      refine ih ?_
      simpa [OpMap.mapsKind, hj] using h

theorem kindAt_of_opcodeOf {m : OpMap} {op : Byte} {k : Kind} (hm : m.functional = true) (h : m.opcodeOf k = some op) :
    m.kindAt op = some k :=
  kindAt_of_mem (of_decide_eq_true hm) (mem_of_opcodeOf h)

/-- REF_OPMAP lists no kind twice, so a mapped opcode is the one its kind is encoded with. -/
theorem opcodeOf_of_kindAt_ref {op : Byte} {k : Kind} (h : refOpmap.kindAt op = some k) :
    refOpmap.opcodeOf k = some op :=
  opcodeOf_of_mem (by decide) (mem_of_kindAt h)

/-! ### Assembling from a decoded field (R82, R87) -/

@[simp] theorem kind_assemble (k : Kind) (F : Operands) : (k.assemble F).kind = k := by cases k <;> rfl

/-- Every instruction whose immediates fit is what its kind assembles from its own field. -/
theorem assemble_field (i : Instr) (h : i.immediatesFit = true) : i.kind.assemble (decodeOperands i.field) = i := by
  revert h
  change AssembleField.Statement i
  cases i with
  | haltR x => exact AssembleField.haltR x
  | haltI u => exact AssembleField.haltI u
  | nop => exact AssembleField.nop
  | addRR x y z => exact AssembleField.addRR x y z
  | addIR u y z => exact AssembleField.addIR u y z
  | subRR x y z => exact AssembleField.subRR x y z
  | subIR u y z => exact AssembleField.subIR u y z
  | mulRR x y z => exact AssembleField.mulRR x y z
  | mulRI x v z => exact AssembleField.mulRI x v z
  | divuRR x y z => exact AssembleField.divuRR x y z
  | divuIR u y z => exact AssembleField.divuIR u y z
  | idivRR x y z => exact AssembleField.idivRR x y z
  | idivIR v y z => exact AssembleField.idivIR v y z
  | andRR x y z => exact AssembleField.andRR x y z
  | orRR x y z => exact AssembleField.orRR x y z
  | notRR x y => exact AssembleField.notRR x y
  | ldiu u z => exact AssembleField.ldiu u z
  | ldis v z => exact AssembleField.ldis v z
  | shldi u z => exact AssembleField.shldi u z
  | shlRR x y z => exact AssembleField.shlRR x y z
  | shlIR u y z => exact AssembleField.shlIR u y z
  | shrRR x y z => exact AssembleField.shrRR x y z
  | shrIR u y z => exact AssembleField.shrIR u y z
  | sarRR x y z => exact AssembleField.sarRR x y z
  | sarIR u y z => exact AssembleField.sarIR u y z
  | getc x => exact AssembleField.getc x
  | putcR x => exact AssembleField.putcR x
  | putcI u => exact AssembleField.putcI u
  | jmpAbs x y => exact AssembleField.jmpAbs x y
  | jmp v => exact AssembleField.jmp v
  | ja v => exact AssembleField.ja v
  | jbe v => exact AssembleField.jbe v
  | jae v => exact AssembleField.jae v
  | jb v => exact AssembleField.jb v
  | jg v => exact AssembleField.jg v
  | jle v => exact AssembleField.jle v
  | jge v => exact AssembleField.jge v
  | jl v => exact AssembleField.jl v
  | jz v => exact AssembleField.jz v
  | jnz v => exact AssembleField.jnz v
  | ldu1D d y z => exact AssembleField.ldu1D d y z
  | ldu2D d y z => exact AssembleField.ldu2D d y z
  | ldu4D d y z => exact AssembleField.ldu4D d y z
  | ld8D d y z => exact AssembleField.ld8D d y z
  | lds1D d y z => exact AssembleField.lds1D d y z
  | lds2D d y z => exact AssembleField.lds2D d y z
  | lds4D d y z => exact AssembleField.lds4D d y z
  | st1D d y z => exact AssembleField.st1D d y z
  | st2D d y z => exact AssembleField.st2D d y z
  | st4D d y z => exact AssembleField.st4D d y z
  | st8D d y z => exact AssembleField.st8D d y z
  | ldu1S1 x y z => exact AssembleField.ldu1S1 x y z
  | ldu2S1 x y z => exact AssembleField.ldu2S1 x y z
  | ldu4S1 x y z => exact AssembleField.ldu4S1 x y z
  | ld8S1 x y z => exact AssembleField.ld8S1 x y z
  | lds1S1 x y z => exact AssembleField.lds1S1 x y z
  | lds2S1 x y z => exact AssembleField.lds2S1 x y z
  | lds4S1 x y z => exact AssembleField.lds4S1 x y z
  | st1S1 x y z => exact AssembleField.st1S1 x y z
  | st2S1 x y z => exact AssembleField.st2S1 x y z
  | st4S1 x y z => exact AssembleField.st4S1 x y z
  | st8S1 x y z => exact AssembleField.st8S1 x y z
  | ldu1S2 x y z => exact AssembleField.ldu1S2 x y z
  | ldu2S2 x y z => exact AssembleField.ldu2S2 x y z
  | ldu4S2 x y z => exact AssembleField.ldu4S2 x y z
  | ld8S2 x y z => exact AssembleField.ld8S2 x y z
  | lds1S2 x y z => exact AssembleField.lds1S2 x y z
  | lds2S2 x y z => exact AssembleField.lds2S2 x y z
  | lds4S2 x y z => exact AssembleField.lds4S2 x y z
  | st1S2 x y z => exact AssembleField.st1S2 x y z
  | st2S2 x y z => exact AssembleField.st2S2 x y z
  | st4S2 x y z => exact AssembleField.st4S2 x y z
  | st8S2 x y z => exact AssembleField.st8S2 x y z
  | ldu1S4 x y z => exact AssembleField.ldu1S4 x y z
  | ldu2S4 x y z => exact AssembleField.ldu2S4 x y z
  | ldu4S4 x y z => exact AssembleField.ldu4S4 x y z
  | ld8S4 x y z => exact AssembleField.ld8S4 x y z
  | lds1S4 x y z => exact AssembleField.lds1S4 x y z
  | lds2S4 x y z => exact AssembleField.lds2S4 x y z
  | lds4S4 x y z => exact AssembleField.lds4S4 x y z
  | st1S4 x y z => exact AssembleField.st1S4 x y z
  | st2S4 x y z => exact AssembleField.st2S4 x y z
  | st4S4 x y z => exact AssembleField.st4S4 x y z
  | st8S4 x y z => exact AssembleField.st8S4 x y z
  | ldu1S8 x y z => exact AssembleField.ldu1S8 x y z
  | ldu2S8 x y z => exact AssembleField.ldu2S8 x y z
  | ldu4S8 x y z => exact AssembleField.ldu4S8 x y z
  | ld8S8 x y z => exact AssembleField.ld8S8 x y z
  | lds1S8 x y z => exact AssembleField.lds1S8 x y z
  | lds2S8 x y z => exact AssembleField.lds2S8 x y z
  | lds4S8 x y z => exact AssembleField.lds4S8 x y z
  | st1S8 x y z => exact AssembleField.st1S8 x y z
  | st2S8 x y z => exact AssembleField.st2S8 x y z
  | st4S8 x y z => exact AssembleField.st4S8 x y z
  | st8S8 x y z => exact AssembleField.st8S8 x y z

/-! ### Fields packed again from their operands (R81, R87) -/

theorem packBytes_bytes (f : OperandField) : packBytes (byteX f) (byteY f) (byteZ f) = f := by
  apply BitVec.eq_of_getLsbD_eq
  intro i hi
  simp [packBytes, byteX, byteY, byteZ]
  grind

theorem packHalf_half (f : OperandField) : packHalf (halfXY f) (byteZ f) = f := by
  apply BitVec.eq_of_getLsbD_eq
  intro i hi
  simp [packHalf, halfXY, byteZ]
  grind

/-- The bytes a field keeps under a mask are the bytes of the masked field. -/
theorem and_eq_packBytes (f m : OperandField) :
    f &&& m = packBytes (byteX f &&& byteX m) (byteY f &&& byteY m) (byteZ f &&& byteZ m) := by
  rw [← packBytes_bytes (f &&& m)]
  simp only [byteX, byteY, byteZ, BitVec.extractLsb'_and]

/-- An ignored Y or Z byte is written as 0 (R88, log 16). -/
theorem packBytes_one (f : OperandField) : packBytes (byteX f) 0 0 = f &&& 0xFF0000#24 := by
  have h : byteX f &&& 0xFF#8 = byteX f := BitVec.and_allOnes
  rw [and_eq_packBytes, show byteX 0xFF0000#24 = 0xFF#8 from rfl, show byteY 0xFF0000#24 = 0 from rfl,
    show byteZ 0xFF0000#24 = 0 from rfl, h]
  exact (congrArg₂ (packBytes (byteX f)) BitVec.and_zero BitVec.and_zero).symm

theorem packBytes_two (f : OperandField) : packBytes (byteX f) (byteY f) 0 = f &&& 0xFFFF00#24 := by
  have hx : byteX f &&& 0xFF#8 = byteX f := BitVec.and_allOnes
  have hy : byteY f &&& 0xFF#8 = byteY f := BitVec.and_allOnes
  rw [and_eq_packBytes, show byteX 0xFFFF00#24 = 0xFF#8 from rfl, show byteY 0xFFFF00#24 = 0xFF#8 from rfl,
    show byteZ 0xFFFF00#24 = 0 from rfl, hx, hy]
  exact (congrArg (packBytes (byteX f) (byteY f)) BitVec.and_zero).symm

theorem and_all (f : OperandField) : f &&& 0xFFFFFF#24 = f := BitVec.and_allOnes

theorem setWidth_zeroExt {n : Nat} (hn : n ≤ 64) (f : BitVec n) : (zeroExt f).setWidth n = f := by
  rw [zeroExt, BitVec.setWidth_setWidth_of_le f hn, BitVec.setWidth_eq]

theorem setWidth_signExt {n : Nat} (hn : n ≤ 64) (f : BitVec n) : (signExt f).setWidth n = f := by
  apply BitVec.eq_of_getLsbD_eq
  intro i hi
  simp only [signExt, BitVec.getLsbD_setWidth, BitVec.getLsbD_signExtend, hi, Nat.lt_of_lt_of_le hi hn, decide_true,
    Bool.true_and, if_true]

@[simp] theorem imm8_zeroExt (b : Byte) : imm8 (zeroExt b) = b := setWidth_zeroExt (by decide) b
@[simp] theorem imm8_signExt (b : Byte) : imm8 (signExt b) = b := setWidth_signExt (by decide) b
@[simp] theorem imm16_zeroExt (h : BitVec 16) : imm16 (zeroExt h) = h := setWidth_zeroExt (by decide) h
@[simp] theorem imm16_signExt (h : BitVec 16) : imm16 (signExt h) = h := setWidth_signExt (by decide) h
@[simp] theorem imm24_signExt (f : BitVec 24) : imm24 (signExt f) = f := setWidth_signExt (by decide) f

/-- An 8-bit immediate in byte X is packed back there, whichever way it was extended. -/
theorem packBytes_imm8 {f : OperandField} {v : Word} (hv : imm8 v = byteX f) :
    packBytes (imm8 v) (byteY f) (byteZ f) = f &&& 0xFFFFFF#24 := by
  rw [hv, packBytes_bytes, and_all]

/-- A 16-bit immediate is packed back above byte Z, whichever way it was extended. -/
theorem packHalf_imm16 {f : OperandField} {v : Word} (hv : imm16 v = halfXY f) :
    packHalf (imm16 v) (byteZ f) = f &&& 0xFFFFFF#24 := by
  rw [hv, packHalf_half, and_all]

/-- The field of a decoded instruction is the field it was decoded from, its ignored bits 0 (R87, R88; log 16): a case per
format. -/
theorem field_assemble (k : Kind) (f : OperandField) :
    (k.assemble (decodeOperands f)).field = f &&& usedBits (formatOf k) := by
  cases k
  case nop => exact BitVec.and_zero.symm
  case haltR | getc | putcR => exact packBytes_one f
  case haltI | putcI => exact (congrArg (packBytes · 0 0) (imm8_zeroExt (byteX f))).trans (packBytes_one f)
  case notRR | jmpAbs => exact packBytes_two f
  case addRR | subRR | mulRR | divuRR | idivRR | andRR | orRR | shlRR | shrRR | sarRR | ldu1S1 | ldu2S1 | ldu4S1
      | ld8S1 | lds1S1 | lds2S1 | lds4S1 | st1S1 | st2S1 | st4S1 | st8S1 | ldu1S2 | ldu2S2 | ldu4S2 | ld8S2
      | lds1S2 | lds2S2 | lds4S2 | st1S2 | st2S2 | st4S2 | st8S2 | ldu1S4 | ldu2S4 | ldu4S4 | ld8S4 | lds1S4
      | lds2S4 | lds4S4 | st1S4 | st2S4 | st4S4 | st8S4 | ldu1S8 | ldu2S8 | ldu4S8 | ld8S8 | lds1S8 | lds2S8
      | lds4S8 | st1S8 | st2S8 | st4S8 | st8S8 => exact (packBytes_bytes f).trans (and_all f).symm
  case addIR | subIR | divuIR | shlIR | shrIR | sarIR => exact packBytes_imm8 (imm8_zeroExt (byteX f))
  case idivIR | ldu1D | ldu2D | ldu4D | ld8D | lds1D | lds2D | lds4D | st1D | st2D | st4D | st8D =>
    exact packBytes_imm8 (imm8_signExt (byteX f))
  case mulRI =>
    exact (congrArg (packBytes (byteX f) · (byteZ f)) (imm8_signExt (byteY f))).trans
      ((packBytes_bytes f).trans (and_all f).symm)
  case ldiu | shldi => exact packHalf_imm16 (imm16_zeroExt (halfXY f))
  case ldis => exact packHalf_imm16 (imm16_signExt (halfXY f))
  case jmp | ja | jbe | jae | jb | jg | jle | jge | jl | jz | jnz => exact (imm24_signExt f).trans (and_all f).symm

/-! ### Immediates of a decoded instruction (R82) -/

theorem fitsU_zeroExt {n : Nat} (hn : n ≤ 64) (f : BitVec n) : fitsU n (zeroExt f) = true := by
  rw [fitsU, decide_eq_true_eq, OperandValues.toNat_zeroExt hn]
  exact f.isLt

theorem fitsS_signExt {n : Nat} (hn : n ≤ 64) (f : BitVec n) : fitsS n (signExt f) = true := by
  rw [fitsS, Bool.and_eq_true, decide_eq_true_eq, decide_eq_true_eq, signExt, BitVec.toInt_signExtend_of_le hn]
  exact ⟨BitVec.le_toInt f, BitVec.toInt_lt⟩

/-- Every immediate a field gives fits that field. -/
theorem immediatesFit_assemble (k : Kind) (f : OperandField) : (k.assemble (decodeOperands f)).immediatesFit = true := by
  cases k
  case nop | haltR | getc | putcR | notRR | jmpAbs | addRR | subRR | mulRR | divuRR | idivRR | andRR | orRR
      | shlRR | shrRR | sarRR | ldu1S1 | ldu2S1 | ldu4S1 | ld8S1 | lds1S1 | lds2S1 | lds4S1 | st1S1 | st2S1
      | st4S1 | st8S1 | ldu1S2 | ldu2S2 | ldu4S2 | ld8S2 | lds1S2 | lds2S2 | lds4S2 | st1S2 | st2S2 | st4S2
      | st8S2 | ldu1S4 | ldu2S4 | ldu4S4 | ld8S4 | lds1S4 | lds2S4 | lds4S4 | st1S4 | st2S4 | st4S4 | st8S4
      | ldu1S8 | ldu2S8 | ldu4S8 | ld8S8 | lds1S8 | lds2S8 | lds4S8 | st1S8 | st2S8 | st4S8 | st8S8 => rfl
  case haltI | putcI | addIR | subIR | divuIR | shlIR | shrIR | sarIR => exact fitsU_zeroExt (by decide) (byteX f)
  case mulRI => exact fitsS_signExt (by decide) (byteY f)
  case idivIR | ldu1D | ldu2D | ldu4D | ld8D | lds1D | lds2D | lds4D | st1D | st2D | st4D | st8D =>
    exact fitsS_signExt (by decide) (byteX f)
  case ldiu | shldi => exact fitsU_zeroExt (by decide) (halfXY f)
  case ldis => exact fitsS_signExt (by decide) (halfXY f)
  case jmp | ja | jbe | jae | jb | jg | jle | jge | jl | jz | jnz => exact fitsS_signExt (by decide) f

/-- What a kind assembles depends on the bits its format uses alone (R88): the masked field is the field of the instruction
assembled, and decodes back to it. -/
theorem assemble_masked (k : Kind) (f : OperandField) :
    k.assemble (decodeOperands (f &&& usedBits (formatOf k))) = k.assemble (decodeOperands f) := by
  have h := assemble_field _ (immediatesFit_assemble k f)
  rwa [kind_assemble, field_assemble] at h

/-! ### Words (R80, R84) -/

theorem wordOfBytes_bytes (w : InstrWord) :
    wordOfBytes (w.extractLsb' 24 8) (w.extractLsb' 16 8) (w.extractLsb' 8 8) (w.extractLsb' 0 8) = w := by
  apply BitVec.eq_of_getLsbD_eq
  intro i hi
  simp [wordOfBytes]
  grind

/-- The byte decoder reads the word its first four bytes hold, and hands the rest back (R80). -/
theorem decode_bytesOfWord {m : OpMap} {w : InstrWord} {i : Instr} (h : decodeWord m w = .ok i) (rest : List Byte) :
    decode m (bytesOfWord w ++ rest) = .ok (i, rest) := by
  simp only [bytesOfWord, List.cons_append, List.nil_append, decode, wordOfBytes_bytes, h]

theorem encode_of_opcodeOf {m : OpMap} {op : Byte} {i : Instr} (h : m.opcodeOf i.kind = some op) :
    encode m i = some (op ++ i.field) := by
  simp only [encode, h]

theorem decodeWord_mapped {m : OpMap} {w : InstrWord} {k : Kind} (h : m.kindAt (opcodeBits w) = some k) :
    decodeWord m w = .ok (k.assemble (decodeOperands (fieldBits w))) := by
  simp only [decodeWord, h]

/-- A word that decodes has a mapped opcode, whose kind assembles the instruction from the word's field. -/
theorem decodeWord_ok {m : OpMap} {w : InstrWord} {i : Instr} (h : decodeWord m w = .ok i) :
    ∃ k, m.kindAt (opcodeBits w) = some k ∧ i = k.assemble (decodeOperands (fieldBits w)) := by
  cases hk : m.kindAt (opcodeBits w) with
  | none => rw [IllegalOpcode.decodeWord_unmapped hk] at h; cases h
  | some k =>
    rw [decodeWord_mapped hk, Except.ok.injEq] at h
    exact ⟨k, rfl, h.symm⟩

/-! ### The statements -/

/-- Settles O1: the opcode comes back because the map is functional, the operands because they fit their fields. -/
theorem encodedInstructionDecodesBack : Obligations.EncodedInstructionDecodesBack := by
  intro m i hm hwf
  obtain ⟨hmaps, hfit⟩ := Bool.and_eq_true_iff.mp hwf
  obtain ⟨op, hop⟩ := opcodeOf_of_mapsKind hmaps
  have hdecode : decodeWord m (op ++ i.field : InstrWord) = .ok i := by
    rw [decodeWord_append (kindAt_of_opcodeOf hm hop), assemble_field i hfit]
  exact ⟨_, encode_of_opcodeOf hop, hdecode, decode_bytesOfWord hdecode⟩

/-- Settles O2: REF_OPMAP gives the kind its opcode back, and the encoder packs the used bits of the field again. -/
theorem decodedWordEncodesBack : Obligations.DecodedWordEncodesBack := by
  intro w i h
  obtain ⟨k, hk, rfl⟩ := decodeWord_ok h
  refine ⟨_, encode_of_opcodeOf (op := opcodeBits w) ?_, opcodeBits_append _ _, ?_⟩
  · rw [kind_assemble, opcodeOf_of_kindAt_ref hk]
  · rw [fieldBits_append, kind_assemble, field_assemble]

/-- Settles O3: a mapped word's instruction is assembled from its used bits alone, and an unmapped one has none. -/
theorem ignoredBitsDoNotMatter : Obligations.IgnoredBitsDoNotMatter := by
  refine ⟨fun m w w' hop hused => ?_, fun m w k hk => ⟨_, decodeWord_mapped hk⟩, by rfl, by rfl⟩
  cases hk : m.kindAt (opcodeBits w) with
  | none => rw [IllegalOpcode.decodeWord_unmapped hk, IllegalOpcode.decodeWord_unmapped (hop ▸ hk), hop]
  | some k =>
    rw [decodeWord_mapped hk, decodeWord_mapped (hop ▸ hk), ← assemble_masked k (fieldBits w), hused k hk,
      assemble_masked]

/-- Settles O5: both counts and the conditions of R85 are evaluated over the 256 opcodes and the 95 kinds. -/
theorem referenceMapConforms : Obligations.ReferenceMapConforms := by
  refine ⟨?_, ?_, ?_, ?_, ?_⟩ <;> decide +kernel

/-- Settles O6: the grid has 55 places, and each is evaluated. -/
theorem memoryGridNumbering : Obligations.MemoryGridNumbering := by
  unfold Obligations.MemoryGridNumbering
  decide

/-- Settles O7: each word is decoded by evaluation. -/
theorem writtenOutWordsDecode : Obligations.WrittenOutWordsDecode := by
  refine ⟨?_, ?_, ?_, ?_, ?_, ?_, ?_, ?_, ?_, ?_, ?_⟩ <;> rfl

end Sys2Proof.Laws.EncodeDecode
end

section
/-!
PROOF. What one instruction can do to the block (R114), said once for all of them: `Outcome` lists the ways a meaning ends
with what each leaves as it was, and `exec_answers` shows that every instruction ends in one of them. The statements about
all instructions (who writes flags, registers, memory, the device and the exit code; who blocks and who halts) are read off.
-/

namespace Sys2Proof.Laws.Outcomes

open Sys2Proof Sys2Proof.Machine Sys2Proof.Claims

/-! ### The ways a meaning ends -/

/-- A flag that `w` does not mark as written is the same in `f` and `g` (R25). -/
def KeepsFlags (w f g : Flags) : Prop :=
  (w.zf = false → g.zf = f.zf) ∧ (w.cf = false → g.cf = f.cf) ∧ (w.of = false → g.of = f.of)
    ∧ (w.sf = false → g.sf = f.sf)

/-- What every instruction that completes leaves alone: IR, the parameters, the slot of x[0], every register but its
destinations (R22) and every flag but those of its kind's row in R25. -/
structure Frame (i : Instr) (s t : State) : Prop where
  ir : t.ir = s.ir
  cfg : t.cfg = s.cfg
  regs : ∀ j, j ∉ destinations i → t.reg j = s.reg j
  slotZero : t.regs[0] = s.regs[0]
  flags : KeepsFlags (flagsWritten i.kind) s.flags t.flags

/-- The run status, the exit code and the error are as they were. -/
structure SameRun (s t : State) : Prop where
  status : t.status = s.status
  exitCode : t.exitCode = s.exitCode
  lastError : t.lastError = s.lastError

/-- The instruction wrote at most registers, flags, pc and jumped. -/
structure Quiet (i : Instr) (s t : State) : Prop extends Frame i s t, SameRun s t where
  mem : t.mem = s.mem
  dev : t.dev = s.dev

/-- The instruction is HALT_R or HALT_I. -/
def isHalt : Instr → Bool
  | .haltR _ | .haltI _ => true
  | _ => false

/-- The errors a meaning can raise (R300): those of codes 2, 4 and 5, and 6 where PAGE_CAPACITY is bounded (R62). -/
def CanRaise (s : State) (e : ErrorRecord) : Prop :=
  (recordCode e = 2 ∨ recordCode e = 4 ∨ recordCode e = 5 ∨ recordCode e = 6)
    ∧ (s.cfg.pageCapacity = none → recordCode e ≠ 6)

/-- Everything a meaning can answer. -/
inductive Outcome (i : Instr) (s : State) : State → Prop
  /-- It faults, having done nothing but emit its reads (R305, R307). -/
  | faults (tr : List TraceEvent) (e : ErrorRecord) (notHalt : isHalt i = false) (raised : CanRaise s e) :
      Outcome i s (State.faulted { s with trace := tr } e)
  | quiet {t : State} (quiet : Quiet i s t) : Outcome i s t
  /-- It stores: the memory is that of one write whose checks passed (R58, R183). -/
  | stores {t : State} {a : Word} {n : Width} {v : Word} (store : isStore i.kind = true) (frame : Frame i s t)
      (run : SameRun s t) (dev : t.dev = s.dev) (checked : accessError a n = none)
      (room : Memory.pageFails s.cfg.pageCapacity s.mem a = false) (mem : t.mem = s.mem.write a n v) : Outcome i s t
  /-- It halts (R270, R271). -/
  | halts {t : State} (halt : (∃ x, i = .haltR x) ∨ ∃ u, i = .haltI u) (frame : Frame i s t) (mem : t.mem = s.mem)
      (dev : t.dev = s.dev) (jumped : t.jumped = s.jumped) (status : t.status = .halted) (noError : t.lastError = none) :
      Outcome i s t
  /-- It puts out a character (R275, R276). -/
  | puts {t : State} (put : i.kind = .putcR ∨ i.kind = .putcI) (frame : Frame i s t) (run : SameRun s t)
      (mem : t.mem = s.mem) : Outcome i s t
  /-- It takes a character (R274). -/
  | gets {t : State} (get : ∃ x, i = .getc x) (frame : Frame i s t) (mem : t.mem = s.mem)
      (exitCode : t.exitCode = s.exitCode) (lastError : t.lastError = s.lastError) (status : t.status = .running) :
      Outcome i s t
  /-- It finds no character and blocks (R274). -/
  | blocks (get : ∃ x, i = .getc x) (tr : List TraceEvent) (empty : s.dev.input = []) :
      Outcome i s (State.setStatus { s with trace := tr } .blocked)

/-- The meaning's answer is a next state, and one of the ways to end. -/
def Answers (i : Instr) (s : State) (r : Result) : Prop := ∃ t, r = .next t ∧ Outcome i s t

/-! ### Flags and updates inside the frame -/

theorem keepsFlags_refl (w f : Flags) : KeepsFlags w f f := ⟨fun _ => rfl, fun _ => rfl, fun _ => rfl, fun _ => rfl⟩

theorem keepsFlags_all (f g : Flags) : KeepsFlags { zf := true, cf := true, of := true, sf := true } f g :=
  ⟨nofun, nofun, nofun, nofun⟩

theorem keepsFlags_zf (f : Flags) (b : Bool) :
    KeepsFlags { zf := true, cf := false, of := false, sf := false } f { f with zf := b } :=
  ⟨nofun, fun _ => rfl, fun _ => rfl, fun _ => rfl⟩

/-- A shift-left writes CF only (R134). -/
theorem keepsFlags_shl (mode : ShiftMode) (v a : Word) (f : Flags) :
    KeepsFlags { zf := false, cf := true, of := false, sf := false } f (shlFlags mode v a f) := by
  unfold shlFlags
  split
  · exact ⟨fun _ => rfl, nofun, fun _ => rfl, fun _ => rfl⟩
  · exact keepsFlags_refl _ f

/-- A multiply writes CF and OF only (R154). -/
theorem keepsFlags_mul (mode : MulFlagMode) (ovf : Bool) (f : Flags) :
    KeepsFlags { zf := false, cf := true, of := true, sf := false } f (mulFlags mode ovf f) := by
  cases mode with
  | assign => exact ⟨fun _ => rfl, nofun, nofun, fun _ => rfl⟩
  | setOnly =>
    cases ovf with
    | true => exact ⟨fun _ => rfl, nofun, nofun, fun _ => rfl⟩
    | false => exact keepsFlags_refl _ f

section Updates

variable {i : Instr} {s t : State}

theorem frame_refl (i : Instr) (s : State) : Frame i s s := ⟨rfl, rfl, fun _ _ => rfl, rfl, keepsFlags_refl _ _⟩

theorem Frame.writeReg (h : Frame i s t) {z : RegIdx} (hz : z ∈ destinations i) (v : Word) : Frame i s (t.writeReg z v) where
  ir := (writeReg_ir t z v).trans h.ir
  cfg := (writeReg_cfg t z v).trans h.cfg
  regs j hj := by
    have hne : j ≠ z := fun heq => hj (heq ▸ hz)
    simpa [hne] using h.regs j hj
  slotZero := (writeReg_regs_zero t z v).trans h.slotZero
  flags := by simpa using h.flags

theorem quiet_refl (i : Instr) (s : State) : Quiet i s s := ⟨frame_refl i s, ⟨rfl, rfl, rfl⟩, rfl, rfl⟩

theorem Quiet.emit (h : Quiet i s t) (e : TraceEvent) : Quiet i s (t.emit e) :=
  ⟨⟨h.ir, h.cfg, h.regs, h.slotZero, h.flags⟩, ⟨h.status, h.exitCode, h.lastError⟩, h.mem, h.dev⟩

theorem Quiet.jumpTo (h : Quiet i s t) (a : Word) : Quiet i s (t.jumpTo a) :=
  ⟨⟨h.ir, h.cfg, h.regs, h.slotZero, h.flags⟩, ⟨h.status, h.exitCode, h.lastError⟩, h.mem, h.dev⟩

theorem Quiet.setFlags (h : Quiet i s t) {f : Flags} (hf : KeepsFlags (flagsWritten i.kind) s.flags f) :
    Quiet i s (t.setFlags f) :=
  ⟨⟨h.ir, h.cfg, h.regs, h.slotZero, hf⟩, ⟨h.status, h.exitCode, h.lastError⟩, h.mem, h.dev⟩

theorem Quiet.writeReg (h : Quiet i s t) {z : RegIdx} (hz : z ∈ destinations i) (v : Word) : Quiet i s (t.writeReg z v) where
  toFrame := h.toFrame.writeReg hz v
  status := (writeReg_status t z v).trans h.status
  exitCode := (writeReg_exitCode t z v).trans h.exitCode
  lastError := (writeReg_lastError t z v).trans h.lastError
  mem := (writeReg_mem t z v).trans h.mem
  dev := (writeReg_dev t z v).trans h.dev

theorem answers_quiet (h : Quiet i s t) : Answers i s (.next t) := ⟨t, rfl, .quiet h⟩

theorem answers_raise {e : ErrorRecord} (hi : isHalt i = false) (he : CanRaise s e) : Answers i s (raise e s) :=
  ⟨_, rfl, .faults s.trace e hi he⟩

/-- An event before a meaning, such as a register read, changes nothing of what the meaning can answer. -/
theorem Outcome.of_emit {e : TraceEvent} (h : Outcome i (s.emit e) t) : Outcome i s t := by
  cases h with
  | faults tr e hi he => exact .faults tr e hi he
  | quiet h =>
    exact .quiet ⟨⟨h.ir, h.cfg, h.regs, h.slotZero, h.flags⟩, ⟨h.status, h.exitCode, h.lastError⟩, h.mem, h.dev⟩
  | stores store h run dev checked room mem =>
    exact .stores store ⟨h.ir, h.cfg, h.regs, h.slotZero, h.flags⟩ ⟨run.status, run.exitCode, run.lastError⟩ dev checked
      room mem
  | halts halt h mem dev jumped status noError =>
    exact .halts halt ⟨h.ir, h.cfg, h.regs, h.slotZero, h.flags⟩ mem dev jumped status noError
  | puts put h run mem =>
    exact .puts put ⟨h.ir, h.cfg, h.regs, h.slotZero, h.flags⟩ ⟨run.status, run.exitCode, run.lastError⟩ mem
  | gets get h mem exitCode lastError status =>
    exact .gets get ⟨h.ir, h.cfg, h.regs, h.slotZero, h.flags⟩ mem exitCode lastError status
  | blocks get tr empty => exact .blocks get tr empty

theorem answers_of_emit {e : TraceEvent} {r : Result} (h : Answers i (s.emit e) r) : Answers i s r := by
  obtain ⟨t, hr, ht⟩ := h
  exact ⟨t, hr, ht.of_emit⟩

theorem answers_readReg {x : RegIdx} {k : Word → State → Result}
    (hk : ∀ v u, Answers i u (k v u)) : Answers i s (readReg x s k) := answers_of_emit (hk _ _)

end Updates

/-! ### The shared operations -/

section Operations

variable {i : Instr}

/-- An access of an instruction's width can only be misaligned (R53, R54). -/
theorem canRaise_of_accessError {n : Width} (hn : PowerWidth n) {a : Word} {e : ErrorRecord} (h : accessError a n = some e)
    (s : State) : CanRaise s e := by
  rw [accessError_power hn] at h
  split at h
  · cases h
  · obtain rfl := Option.some.inj h
    exact ⟨.inl rfl, fun _ => nofun⟩

theorem loadAt_answers {n : Width} (hn : PowerWidth n) {z : RegIdx} (hz : z ∈ destinations i) (hi : isHalt i = false)
    (ext : Word → Word) (ea : Word) (s : State) : Answers i s (loadAt n ext z ea s) := by
  rcases memRead_cases ea n s fun v s => .next (s.writeReg z (ext v)) with ⟨e, he, h⟩ | ⟨-, h⟩
  · exact ⟨_, h, .faults s.trace e hi (canRaise_of_accessError hn he s)⟩
  · exact ⟨_, h, .quiet (((quiet_refl i s).emit _).writeReg hz _)⟩

theorem storeAt_answers {n : Width} (hn : PowerWidth n) (hs : isStore i.kind = true) (hi : isHalt i = false) (z : RegIdx)
    (ea : Word) (s : State) : Answers i s (storeAt n z ea s) := by
  refine answers_readReg fun v u => ?_
  cases he : accessError ea n with
  | some e => exact ⟨_, by simp only [memWrite, he, raise_eq], .faults u.trace e hi (canRaise_of_accessError hn he u)⟩
  | none =>
    cases hp : Memory.pageFails u.cfg.pageCapacity u.mem ea with
    | false => exact ⟨_, memWrite_ok he hp v .next, .stores hs ⟨rfl, rfl, fun _ _ => rfl, rfl, keepsFlags_refl _ _⟩
        ⟨rfl, rfl, rfl⟩ rfl he hp rfl⟩
    | true =>
      refine ⟨u.faulted (.pageAllocFailure ea n), by simp only [memWrite, he, hp, if_true, raise_eq],
        .faults u.trace _ hi ⟨.inr (.inr (.inr rfl)), ?_⟩⟩
      intro hcap
      simp [Memory.pageFails, hcap] at hp

theorem addInto_answers {z : RegIdx} (hz : z ∈ destinations i)
    (hf : flagsWritten i.kind = { zf := true, cf := true, of := true, sf := true }) (a b : Word) (s : State) :
    Answers i s (addInto a b z s) :=
  answers_quiet (((quiet_refl i s).setFlags (hf ▸ keepsFlags_all _ _)).writeReg hz _)

theorem subInto_answers {z : RegIdx} (hz : z ∈ destinations i)
    (hf : flagsWritten i.kind = { zf := true, cf := true, of := true, sf := true }) (a b : Word) (s : State) :
    Answers i s (subInto a b z s) :=
  answers_quiet (((quiet_refl i s).setFlags (hf ▸ keepsFlags_all _ _)).writeReg hz _)

theorem mulInto_answers {z : RegIdx} (hz : z ∈ destinations i)
    (hf : flagsWritten i.kind = { zf := false, cf := true, of := true, sf := false }) (a b : Word) (s : State) :
    Answers i s (mulInto a b z s) :=
  answers_quiet (((quiet_refl i s).writeReg hz _).setFlags (hf ▸ keepsFlags_mul _ _ _))

theorem writeWithZf_answers {z : RegIdx} (hz : z ∈ destinations i)
    (hf : flagsWritten i.kind = { zf := true, cf := false, of := false, sf := false }) (v : Word) (s : State) :
    Answers i s (writeWithZf z v s) := by
  refine answers_quiet (((quiet_refl i s).writeReg hz v).setFlags ?_)
  rw [hf, writeReg_flags]
  exact keepsFlags_zf _ _

theorem shiftLeftInto_answers {z : RegIdx} (hz : z ∈ destinations i)
    (hf : flagsWritten i.kind = { zf := false, cf := true, of := false, sf := false }) (a v : Word) (s : State) :
    Answers i s (shiftLeftInto a v z s) :=
  answers_quiet (((quiet_refl i s).setFlags (hf ▸ keepsFlags_shl _ _ _ _)).writeReg hz _)

theorem writeReg_answers {z : RegIdx} (hz : z ∈ destinations i) (v : Word) (s : State) :
    Answers i s (.next (s.writeReg z v)) := answers_quiet ((quiet_refl i s).writeReg hz v)

/-- `DivU` faults on an index or on the divisor, or writes its three registers (R157). -/
theorem divU_answers {q : RegIdx} (hq : destinations i = [q, q + 1, q + 2]) (hi : isHalt i = false) (d : Word) (r : RegIdx)
    (s : State) : Answers i s (divU d r q s) := by
  unfold divU
  split
  · exact answers_raise hi ⟨.inr (.inr (.inl rfl)), fun _ => nofun⟩
  · refine answers_readReg fun lo u => answers_readReg fun hi' u => ?_
    split
    · exact answers_raise hi ⟨.inr (.inl rfl), fun _ => nofun⟩
    · exact answers_quiet ((((quiet_refl i u).writeReg (by simp [hq]) _).writeReg (by simp [hq]) _).writeReg (by simp [hq]) _)

/-- `DivS` faults on the index or on the divisor, or writes its two registers (R160). -/
theorem divS_answers {q : RegIdx} (hq : destinations i = [q, q + 1]) (hi : isHalt i = false) (d n : Word) (s : State) :
    Answers i s (divS d n q s) := by
  unfold divS
  split
  · exact answers_raise hi ⟨.inr (.inr (.inl rfl)), fun _ => nofun⟩
  · split
    · exact answers_raise hi ⟨.inr (.inl rfl), fun _ => nofun⟩
    · exact answers_quiet (((quiet_refl i s).writeReg (by simp [hq]) _).writeReg (by simp [hq]) _)

theorem jumpRelativeIf_answers (taken : Bool) (v : Word) (s : State) : Answers i s (jumpRelativeIf taken v s) := by
  cases taken with
  | true => exact answers_quiet ((quiet_refl i s).jumpTo _)
  | false => exact answers_quiet (quiet_refl i s)

theorem haltWith_answers (hi : (∃ x, i = .haltR x) ∨ ∃ u, i = .haltI u) (c : Word) (s : State) :
    Answers i s (.next (s.haltWith c)) :=
  ⟨_, rfl, .halts hi ⟨rfl, rfl, fun _ _ => rfl, rfl, keepsFlags_refl _ _⟩ rfl rfl rfl rfl rfl⟩

theorem putChar_answers (hi : i.kind = .putcR ∨ i.kind = .putcI) (c : Byte) (s : State) :
    Answers i s (.next (s.putChar c)) :=
  ⟨_, rfl, .puts hi ⟨rfl, rfl, fun _ _ => rfl, rfl, keepsFlags_refl _ _⟩ ⟨rfl, rfl, rfl⟩ rfl⟩

theorem execGetc_answers (x : RegIdx) (s : State) : Answers (.getc x) s (execGetc x s) := by
  rcases execGetc_cases x s with ⟨hempty, h⟩ | ⟨c, rest, -, h⟩
  · exact ⟨_, h, .blocks ⟨x, rfl⟩ s.trace hempty⟩
  · have hq : Frame (.getc x) s (s.setDev { s.dev with input := rest }) :=
      ⟨rfl, rfl, fun _ _ => rfl, rfl, keepsFlags_refl _ _⟩
    have hw := hq.writeReg (z := x) List.mem_cons_self (zeroExt c)
    exact ⟨_, h, .gets ⟨x, rfl⟩ ⟨hw.ir, hw.cfg, hw.regs, hw.slotZero, hw.flags⟩ (writeReg_mem _ _ _)
      (writeReg_exitCode _ _ _) (writeReg_lastError _ _ _) rfl⟩

theorem execJmpAbs_answers (x y : RegIdx) (s : State) : Answers (.jmpAbs x y) s (execJmpAbs x y s) :=
  answers_quiet ((((quiet_refl _ s).writeReg List.mem_cons_self _).emit _).jumpTo _)

theorem dispAddress_answers {k : Word → State → Result} (hk : ∀ ea u, Answers i u (k ea u)) (d : Word) (y : RegIdx)
    (s : State) : Answers i s (dispAddress d y s k) := answers_readReg fun _ _ => hk _ _

theorem scaledAddress_answers {k : Word → State → Result} (hk : ∀ ea u, Answers i u (k ea u)) (scale : Nat) (x y : RegIdx)
    (s : State) : Answers i s (scaledAddress scale x y s k) :=
  answers_readReg fun _ _ => answers_readReg fun _ _ => hk _ _

end Operations

/-! ### Every instruction -/

theorem powerWidth_b1 : PowerWidth .b1 := .inl rfl
theorem powerWidth_b2 : PowerWidth .b2 := .inr (.inl rfl)
theorem powerWidth_b4 : PowerWidth .b4 := .inr (.inr (.inl rfl))
theorem powerWidth_b8 : PowerWidth .b8 := .inr (.inr (.inr rfl))

theorem exec_answers (i : Instr) (s : State) : Answers i s (exec i s) := by
  cases i
  case haltR x => exact answers_readReg fun v u => haltWith_answers (.inl ⟨x, rfl⟩) v u
  case haltI u => exact haltWith_answers (.inr ⟨u, rfl⟩) u s
  case nop => exact answers_quiet (quiet_refl _ s)
  case addRR x y z =>
    exact answers_readReg fun a _ => answers_readReg fun b u => addInto_answers List.mem_cons_self rfl a b u
  case addIR a y z => exact answers_readReg fun b u => addInto_answers List.mem_cons_self rfl a b u
  case subRR x y z =>
    exact answers_readReg fun a _ => answers_readReg fun b u => subInto_answers List.mem_cons_self rfl a b u
  case subIR a y z => exact answers_readReg fun b u => subInto_answers List.mem_cons_self rfl a b u
  case mulRR x y z =>
    exact answers_readReg fun a _ => answers_readReg fun b u => mulInto_answers List.mem_cons_self rfl a b u
  case mulRI x v z => exact answers_readReg fun a u => mulInto_answers List.mem_cons_self rfl a v u
  case divuRR x y z => exact answers_readReg fun d u => divU_answers rfl rfl d y u
  case divuIR d y z => exact divU_answers rfl rfl d y s
  case idivRR x y z =>
    exact answers_readReg fun d _ => answers_readReg fun n u => divS_answers rfl rfl d n u
  case idivIR d y z => exact answers_readReg fun n u => divS_answers rfl rfl d n u
  case andRR x y z =>
    exact answers_readReg fun a _ => answers_readReg fun b u => writeWithZf_answers List.mem_cons_self rfl (a &&& b) u
  case orRR x y z =>
    exact answers_readReg fun a _ => answers_readReg fun b u => writeWithZf_answers List.mem_cons_self rfl (a ||| b) u
  case notRR x y => exact answers_readReg fun a u => writeWithZf_answers List.mem_cons_self rfl (~~~a) u
  case ldiu v z | ldis v z => exact writeWithZf_answers List.mem_cons_self rfl v s
  case shldi v z => exact answers_readReg fun old u => writeWithZf_answers List.mem_cons_self rfl ((old <<< 16) + v) u
  case shlRR x y z =>
    exact answers_readReg fun a _ => answers_readReg fun v u => shiftLeftInto_answers List.mem_cons_self rfl a v u
  case shlIR a y z => exact answers_readReg fun v u => shiftLeftInto_answers List.mem_cons_self rfl a v u
  case shrRR x y z | sarRR x y z =>
    exact answers_readReg fun _ _ => answers_readReg fun _ u => writeReg_answers List.mem_cons_self _ u
  case shrIR a y z | sarIR a y z => exact answers_readReg fun _ u => writeReg_answers List.mem_cons_self _ u
  case getc x => exact execGetc_answers x s
  case putcR x => exact answers_readReg fun v u => putChar_answers (.inl rfl) (v.setWidth 8) u
  case putcI u => exact putChar_answers (.inr rfl) (u.setWidth 8) s
  case jmpAbs x y => exact execJmpAbs_answers x y s
  case jmp v | ja v | jbe v | jae v | jb v | jg v | jle v | jge v | jl v | jz v | jnz v =>
    exact jumpRelativeIf_answers _ v s
  case ldu1D d y z | lds1D d y z =>
    exact dispAddress_answers (loadAt_answers powerWidth_b1 List.mem_cons_self rfl _) d y s
  case ldu2D d y z | lds2D d y z =>
    exact dispAddress_answers (loadAt_answers powerWidth_b2 List.mem_cons_self rfl _) d y s
  case ldu4D d y z | lds4D d y z =>
    exact dispAddress_answers (loadAt_answers powerWidth_b4 List.mem_cons_self rfl _) d y s
  case ld8D d y z =>
    exact dispAddress_answers (loadAt_answers powerWidth_b8 List.mem_cons_self rfl _) d y s
  case st1D d y z => exact dispAddress_answers (storeAt_answers powerWidth_b1 rfl rfl z) d y s
  case st2D d y z => exact dispAddress_answers (storeAt_answers powerWidth_b2 rfl rfl z) d y s
  case st4D d y z => exact dispAddress_answers (storeAt_answers powerWidth_b4 rfl rfl z) d y s
  case st8D d y z => exact dispAddress_answers (storeAt_answers powerWidth_b8 rfl rfl z) d y s
  case ldu1S1 x y z | lds1S1 x y z | ldu1S2 x y z | lds1S2 x y z | ldu1S4 x y z | lds1S4 x y z | ldu1S8 x y z
      | lds1S8 x y z =>
    exact scaledAddress_answers (loadAt_answers powerWidth_b1 List.mem_cons_self rfl _) _ x y s
  case ldu2S1 x y z | lds2S1 x y z | ldu2S2 x y z | lds2S2 x y z | ldu2S4 x y z | lds2S4 x y z | ldu2S8 x y z
      | lds2S8 x y z =>
    exact scaledAddress_answers (loadAt_answers powerWidth_b2 List.mem_cons_self rfl _) _ x y s
  case ldu4S1 x y z | lds4S1 x y z | ldu4S2 x y z | lds4S2 x y z | ldu4S4 x y z | lds4S4 x y z | ldu4S8 x y z
      | lds4S8 x y z =>
    exact scaledAddress_answers (loadAt_answers powerWidth_b4 List.mem_cons_self rfl _) _ x y s
  case ld8S1 x y z | ld8S2 x y z | ld8S4 x y z | ld8S8 x y z =>
    exact scaledAddress_answers (loadAt_answers powerWidth_b8 List.mem_cons_self rfl _) _ x y s
  case st1S1 x y z | st1S2 x y z | st1S4 x y z | st1S8 x y z =>
    exact scaledAddress_answers (storeAt_answers powerWidth_b1 rfl rfl z) _ x y s
  case st2S1 x y z | st2S2 x y z | st2S4 x y z | st2S8 x y z =>
    exact scaledAddress_answers (storeAt_answers powerWidth_b2 rfl rfl z) _ x y s
  case st4S1 x y z | st4S2 x y z | st4S4 x y z | st4S8 x y z =>
    exact scaledAddress_answers (storeAt_answers powerWidth_b4 rfl rfl z) _ x y s
  case st8S1 x y z | st8S2 x y z | st8S4 x y z | st8S8 x y z =>
    exact scaledAddress_answers (storeAt_answers powerWidth_b8 rfl rfl z) _ x y s

/-- Whatever an instruction answers is one of the ways to end. -/
theorem outcome_of_exec {i : Instr} {s t : State} (h : exec i s = .next t) : Outcome i s t := by
  obtain ⟨u, hu, ho⟩ := exec_answers i s
  rw [h] at hu
  cases hu
  exact ho

/-! ### Who writes flags, registers and memory, who blocks and who halts -/

/-- Settles O51: a completed meaning writes flags inside its frame, and a fault or a block writes none. -/
theorem flagWritersAreTheTable : Obligations.FlagWritersAreTheTable := by
  intro i s t h
  change KeepsFlags (flagsWritten i.kind) s.flags t.flags
  cases outcome_of_exec h with
  | faults => exact keepsFlags_refl _ _
  | blocks => exact keepsFlags_refl _ _
  | quiet q => exact q.flags
  | stores _ frame | halts _ frame | puts _ frame | gets _ frame => exact frame.flags

/-- Settles O52: a completed meaning writes registers inside its frame, and a fault or a block writes none. -/
theorem registerWritersAreTheList : Obligations.RegisterWritersAreTheList := by
  intro i s t h
  cases outcome_of_exec h with
  | faults => exact ⟨fun _ _ => rfl, rfl⟩
  | blocks => exact ⟨fun _ _ => rfl, rfl⟩
  | quiet q => exact ⟨q.regs, q.slotZero⟩
  | stores _ frame | halts _ frame | puts _ frame | gets _ frame => exact ⟨frame.regs, frame.slotZero⟩

/-- Settles O50: of the ways to end only `blocks` leaves BLOCKED, and only `halts` and `faults` leave HALTED. -/
theorem onlyGetcBlocksOnlyHaltHalts : Obligations.OnlyGetcBlocksOnlyHaltHalts := by
  intro i s t h
  cases outcome_of_exec h with
  | faults tr e notHalt =>
    refine ⟨nofun, fun _ _ => .inr ⟨?_, ?_, nofun⟩⟩
    · rintro x rfl
      exact Bool.noConfusion notHalt
    · rintro u rfl
      exact Bool.noConfusion notHalt
  | blocks get _ empty => exact ⟨fun _ _ => ⟨get, empty⟩, nofun⟩
  | quiet q => exact ⟨fun ht hs => absurd (q.status ▸ ht) hs, fun ht hs => absurd (q.status ▸ ht) hs⟩
  | stores _ _ run | puts _ _ run =>
    exact ⟨fun ht hs => absurd (run.status ▸ ht) hs, fun ht hs => absurd (run.status ▸ ht) hs⟩
  | halts halt _ _ _ _ status noError => exact ⟨fun ht => (by simp [status] at ht), fun _ _ => .inl ⟨halt, noError⟩⟩
  | gets _ _ _ _ _ status => exact ⟨fun ht => (by simp [status] at ht), fun ht => (by simp [status] at ht)⟩

end Sys2Proof.Laws.Outcomes
end

section
/-!
PROOF. The step (R111 to R123): what it runs, how it ends, and the ways it can answer (`step_cases`). From these and the
outcomes of the meanings follow that every step answers a next state, that its faults are precise (R305), and which errors
it can record.
-/

namespace Sys2Proof.Laws.Steps

open Sys2Proof Sys2Proof.Machine Sys2Proof.Claims Sys2Proof.Laws.Outcomes Sys2Proof.Laws.IllegalOpcode

/-! ### The end of a step (R115 to R117) -/

/-- The end of a step moves on, emits one event, or does nothing. -/
theorem endStep_cases (s : State) :
    s.endStep = s.incrementIP.preview s.incrementIP.pc ∨ (∃ e, s.endStep = s.emit e) ∨ s.endStep = s := by
  cases h : s.status with
  | running => exact .inl (endStep_running h)
  | blocked => exact .inr (.inl ⟨_, endStep_blocked h⟩)
  | halted =>
    by_cases he : s.lastError = none
    · exact .inr (.inl ⟨_, (endStep_halted h).trans (if_pos he)⟩)
    · exact .inr (.inr ((endStep_halted h).trans (if_neg he)))

@[simp] theorem endStep_regs (s : State) : s.endStep.regs = s.regs := by
  rcases endStep_cases s with h | ⟨e, h⟩ | h <;> simp [h]

@[simp] theorem endStep_flags (s : State) : s.endStep.flags = s.flags := by
  rcases endStep_cases s with h | ⟨e, h⟩ | h <;> simp [h]

@[simp] theorem endStep_ir (s : State) : s.endStep.ir = s.ir := by
  rcases endStep_cases s with h | ⟨e, h⟩ | h <;> simp [h]

@[simp] theorem endStep_status (s : State) : s.endStep.status = s.status := by
  rcases endStep_cases s with h | ⟨e, h⟩ | h <;> simp [h]

@[simp] theorem endStep_exitCode (s : State) : s.endStep.exitCode = s.exitCode := by
  rcases endStep_cases s with h | ⟨e, h⟩ | h <;> simp [h]

@[simp] theorem endStep_lastError (s : State) : s.endStep.lastError = s.lastError := by
  rcases endStep_cases s with h | ⟨e, h⟩ | h <;> simp [h]

@[simp] theorem endStep_mem (s : State) : s.endStep.mem = s.mem := by
  rcases endStep_cases s with h | ⟨e, h⟩ | h <;> simp [h]

@[simp] theorem endStep_dev (s : State) : s.endStep.dev = s.dev := by
  rcases endStep_cases s with h | ⟨e, h⟩ | h <;> simp [h]

@[simp] theorem endStep_cfg (s : State) : s.endStep.cfg = s.cfg := by
  rcases endStep_cases s with h | ⟨e, h⟩ | h <;> simp [h]

/-- A step that goes on moves pc past the word unless a transfer has marked jumped (R29, R117). -/
theorem endStep_pc_running {s : State} (h : s.status = .running) :
    s.endStep.pc = if s.jumped then s.pc else s.pc + 4#64 := by
  rw [endStep_running h, preview_pc, incrementIP_pc]

theorem endStep_jumped_running {s : State} (h : s.status = .running) : s.endStep.jumped = false := by
  rw [endStep_running h, preview_jumped, incrementIP_jumped]

/-- A step that ends in a fault has nothing left to do: the fault emitted its halt event (R305; log 14). -/
theorem endStep_faulted (s : State) (e : ErrorRecord) : (s.faulted e).endStep = s.faulted e :=
  (endStep_halted rfl).trans (if_neg nofun)

/-- The next address modulo 2^64 (R8, R29). -/
theorem add_four_eq_ofNat (a : Word) : a + 4#64 = BitVec.ofNat 64 (a.toNat + 4) := by
  rw [BitVec.ofNat_add, BitVec.ofNat_toNat, BitVec.setWidth_eq]

/-- The events of a preview: of the word there at an aligned address, none at another (R318). -/
theorem preview_trace (s : State) (p : Word) :
    (s.preview p).trace =
      (if p.toNat % 4 = 0 then
        [.preview (fieldBits (wordAt s.mem p.toNat))
          (match s.cfg.opmap.kindAt (opcodeBits (wordAt s.mem p.toNat)) with
           | some _ => .ofWord (wordAt s.mem p.toNat)
           | none => .illegal)]
      else []) ++ s.trace := by
  by_cases hp : p.toNat % 4 = 0
  · have hw : (s.mem.read p .b4).setWidth 32 = wordAt s.mem p.toNat := by rw [read_b4_eq_wordAt, setWidth_setWidth_word]
    rw [State.preview, if_neg (not_not.mpr hp), if_pos hp, hw]
    rfl
  · rw [State.preview, if_pos hp, if_neg hp, List.nil_append]

/-- Settles O40: a case per status; RUNNING is `incrementIP` and the preview at the new pc. -/
theorem stepEndsByStatus : Obligations.StepEndsByStatus := by
  intro t
  refine ⟨fun h he => ?natural, fun h he => ?fault, fun h => ?block, fun h => ⟨t.endStep, rfl, ?running⟩⟩
  case natural => rw [finishStep, endStep_halted h, if_pos he]
  case fault => rw [finishStep, endStep_halted h, if_neg he]
  case block => rw [finishStep, endStep_blocked h]
  case running =>
    refine ⟨?_, endStep_jumped_running h, endStep_regs t, endStep_flags t,
      ⟨endStep_ir t, endStep_status t, endStep_exitCode t, endStep_lastError t, endStep_cfg t⟩, endStep_mem t,
      endStep_dev t, ?_⟩
    · rw [endStep_pc_running h, add_four_eq_ofNat]
    · have htrace := preview_trace t.incrementIP t.incrementIP.pc
      rw [incrementIP_mem, incrementIP_cfg, incrementIP_trace] at htrace
      rw [endStep_running h, preview_pc]
      exact htrace

/-! ### What a step runs (R111, R112, R123) -/

/-- The fetch at a misaligned pc faults (R53, R111). -/
theorem fetch_misaligned {s : State} (hpc : s.pc.toNat % 4 ≠ 0) (k : InstrWord → State → Result) :
    fetch s k = .next (s.faulted (.memoryMisaligned s.pc .b4)) :=
  memRead_fault ((accessError_power powerWidth_b4 s.pc).trans (if_neg hpc)) s _

theorem step_misaligned {s : State} (hrun : s.status ≠ .halted) (hpc : s.pc.toNat % 4 ≠ 0) :
    step s = .next (s.faulted (.memoryMisaligned s.pc .b4)) := by
  rw [step_not_halted hrun, fetch_misaligned hpc]

/-- A step at an aligned pc runs the meaning of the instruction there in the fetched state. -/
theorem step_decoded {s : State} {i : Instr} (hrun : s.status ≠ .halted) (hpc : s.pc.toNat % 4 = 0)
    (hi : decodeWord s.cfg.opmap (wordAt s.mem s.pc.toNat) = .ok i) : step s = finishStep (exec i (fetched s)) := by
  rw [step_not_halted hrun, fetch_aligned hpc]
  simp only [fetched_cfg, hi]

theorem decodeWord_of_fetches {s : State} {i : Instr} (h : Fetches s i) :
    decodeWord s.cfg.opmap (wordAt s.mem s.pc.toNat) = .ok i := by
  obtain ⟨-, -, hdecode⟩ := h
  rw [decode, ← wordAt] at hdecode
  cases hw : decodeWord s.cfg.opmap (wordAt s.mem s.pc.toNat) with
  | ok j => rw [hw] at hdecode; cases hdecode; rfl
  | error e => rw [hw] at hdecode; cases hdecode

/-- Settles O39: the four bytes decode as the word the fetch hands on. -/
theorem stepRunsDecodedInstruction : Obligations.StepRunsDecodedInstruction := by
  intro s i h
  obtain ⟨hrun, hpc, -⟩ := id h
  exact step_decoded hrun hpc (decodeWord_of_fetches h)

/-- A step whose meaning answers `u` ends as `u` does. -/
theorem step_of_fetches {s u : State} {i : Instr} (h : Fetches s i) (hu : exec i (fetched s) = .next u) :
    step s = .next u.endStep := by
  rw [stepRunsDecodedInstruction s i h, hu, finishStep]

/-- Everything a step out of HALTED can answer. -/
inductive StepOutcome (s : State) : State → Prop
  /-- The fetch faults (R53, R111). -/
  | misaligned (pc : s.pc.toNat % 4 ≠ 0) : StepOutcome s (s.faulted (.memoryMisaligned s.pc .b4))
  /-- The word fetched has no meaning (R113). -/
  | illegal (pc : s.pc.toNat % 4 = 0) (op : Byte) : StepOutcome s ((fetched s).faulted (.illegalInstruction op s.pc))
  /-- The meaning of the decoded instruction runs in the fetched state, and the step ends (R114 to R117). -/
  | meaning {i : Instr} {u : State} (pc : s.pc.toNat % 4 = 0)
      (decoded : decodeWord s.cfg.opmap (wordAt s.mem s.pc.toNat) = .ok i) (exec : exec i (fetched s) = .next u)
      (outcome : Outcome i (fetched s) u) : StepOutcome s u.endStep

theorem step_answers {s : State} (hrun : s.status ≠ .halted) : ∃ t, step s = .next t ∧ StepOutcome s t := by
  by_cases hpc : s.pc.toNat % 4 = 0
  · cases hk : s.cfg.opmap.kindAt (s.mem.byte s.pc.toNat) with
    | none => exact ⟨_, step_unmapped hrun hpc hk, .illegal hpc _⟩
    | some k =>
      have hi := EncodeDecode.decodeWord_mapped (w := wordAt s.mem s.pc.toNat) ((congrArg _ (opcodeBits_wordAt _ _)).trans hk)
      obtain ⟨u, hu, ho⟩ := exec_answers (k.assemble (decodeOperands (fieldBits (wordAt s.mem s.pc.toNat)))) (fetched s)
      exact ⟨u.endStep, by rw [step_decoded hrun hpc hi, hu, finishStep], .meaning hpc hi hu ho⟩
  · exact ⟨_, step_misaligned hrun hpc, .misaligned hpc⟩

theorem outcome_of_step {s t : State} (hrun : s.status ≠ .halted) (h : step s = .next t) : StepOutcome s t := by
  obtain ⟨u, hu, ho⟩ := step_answers hrun
  rw [h] at hu
  cases hu
  exact ho

/-- Settles O45: every outcome of a meaning is a next state, and so are both faults of the step around it. -/
theorem everyStepAnswersNextState : Obligations.EveryStepAnswersNextState := by
  refine ⟨fun s => ?_, fun i s => ?_⟩
  · by_cases hrun : s.status = .halted
    · exact ⟨s, step_halted hrun⟩
    · obtain ⟨t, h, -⟩ := step_answers hrun
      exact ⟨t, h⟩
  · obtain ⟨t, h, -⟩ := exec_answers i s
    exact ⟨t, h⟩

/-! ### Faults of a step (R305, R307) -/

/-- A meaning that does not fault does not leave a state HALTED with an error where it was not HALTED before. -/
theorem faulted_of_outcome {i : Instr} {s u : State} (ho : Outcome i s u) (hrun : s.status ≠ .halted)
    (hhalt : u.status = .halted) (herr : u.lastError ≠ none) :
    ∃ tr e, u = State.faulted { s with trace := tr } e ∧ CanRaise s e := by
  cases ho with
  | faults tr e _ raised => exact ⟨tr, e, rfl, raised⟩
  | quiet q => exact absurd (q.status ▸ hhalt) hrun
  | stores _ _ run | puts _ _ run => exact absurd (run.status ▸ hhalt) hrun
  | halts _ _ _ _ _ _ noError => exact absurd noError herr
  | gets _ _ _ _ _ status => exact nomatch status.symm.trans hhalt
  | blocks => exact nomatch (hhalt : Status.blocked = .halted)

/-- What a step that records an error answers: a state that faulted, either the step's own or the fetched one. -/
theorem fault_of_step {s t : State} (hrun : s.status ≠ .halted) (h : step s = .next t) (hhalt : t.status = .halted)
    (herr : t.lastError ≠ none) :
    (s.pc.toNat % 4 ≠ 0 ∧ t = s.faulted (.memoryMisaligned s.pc .b4))
      ∨ (s.pc.toNat % 4 = 0 ∧ ∃ tr e, t = State.faulted { fetched s with trace := tr } e
          ∧ (recordCode e = 1 ∨ CanRaise (fetched s) e)) := by
  cases outcome_of_step hrun h with
  | misaligned hpc => exact .inl ⟨hpc, rfl⟩
  | illegal hpc op => exact .inr ⟨hpc, _, _, rfl, .inl rfl⟩
  | meaning hpc _ _ ho =>
    rw [endStep_status] at hhalt
    rw [endStep_lastError] at herr
    obtain ⟨tr, e, rfl, he⟩ := faulted_of_outcome ho hrun hhalt herr
    exact .inr ⟨hpc, tr, e, endStep_faulted _ e, .inr he⟩

/-- Settles O46: the state that faulted is the step's own or the fetched one, which differ in IR and the trace alone. -/
theorem faultsArePrecise : Obligations.FaultsArePrecise := by
  intro s t hrun h hhalt herr
  rcases fault_of_step hrun h hhalt herr with ⟨hpc, rfl⟩ | ⟨hpc, tr, e, rfl, -⟩
  · exact ⟨⟨rfl, rfl, rfl, rfl, rfl, rfl, rfl, rfl⟩, (if_neg hpc).symm, _, rfl, rfl⟩
  · exact ⟨⟨rfl, rfl, rfl, rfl, rfl, rfl, rfl, rfl⟩, (if_pos hpc).symm, e, rfl, rfl⟩

/-- Settles O54: code 2 from the fetch, code 1 from an illegal opcode, and the codes a meaning can raise. -/
theorem faultCodesOfASingleStep : Obligations.FaultCodesOfASingleStep := by
  intro s t e hrun h hhalt herr
  rcases fault_of_step hrun h hhalt (by simp [herr]) with ⟨-, rfl⟩ | ⟨-, tr, e', rfl, hone | ⟨hcode, hcap⟩⟩
  · cases herr
    exact ⟨.inr (.inl rfl), fun _ => nofun⟩
  · cases herr
    exact ⟨.inl hone, fun _ => by omega⟩
  · cases herr
    exact ⟨.inr hcode, hcap⟩

/-! ### What a step leaves alone -/

/-- IR and the parameters are no meaning's to write (R31, R40). -/
theorem ir_cfg_of_outcome {i : Instr} {s t : State} (h : Outcome i s t) : t.ir = s.ir ∧ t.cfg = s.cfg := by
  cases h with
  | faults | blocks => exact ⟨rfl, rfl⟩
  | quiet q => exact ⟨q.ir, q.cfg⟩
  | stores _ frame | halts _ frame | puts _ frame | gets _ frame => exact ⟨frame.ir, frame.cfg⟩

theorem mem_of_outcome {i : Instr} {s t : State} (h : Outcome i s t) (hi : isStore i.kind = false) : t.mem = s.mem := by
  cases h with
  | faults | blocks => rfl
  | quiet q => exact q.mem
  | stores store => rw [store] at hi; cases hi
  | halts _ _ mem | puts _ _ _ mem | gets _ _ mem => exact mem

/-- An allocated page stays allocated (R59, R65). -/
theorem pages_of_outcome {i : Instr} {s t : State} (h : Outcome i s t) {p : Nat} (hp : p ∈ s.mem.pages) :
    p ∈ t.mem.pages := by
  cases h with
  | faults | blocks => exact hp
  | quiet q => exact q.mem ▸ hp
  | stores _ _ _ _ _ _ mem => exact mem ▸ mem_addPage.mpr (.inr hp)
  | halts _ _ mem | puts _ _ _ mem | gets _ _ mem => exact mem ▸ hp

theorem dev_of_outcome {i : Instr} {s t : State} (h : Outcome i s t) (hg : i.kind ≠ .getc) (hr : i.kind ≠ .putcR)
    (hi : i.kind ≠ .putcI) : t.dev = s.dev := by
  cases h with
  | faults | blocks => rfl
  | quiet q => exact q.dev
  | stores _ _ _ dev | halts _ _ _ dev => exact dev
  | puts put => exact absurd put (by simp [hr, hi])
  | gets get => obtain ⟨x, rfl⟩ := get; exact absurd rfl hg

theorem exitCode_of_outcome {i : Instr} {s t : State} (h : Outcome i s t) (hr : i.kind ≠ .haltR) (hi : i.kind ≠ .haltI) :
    t.exitCode = s.exitCode := by
  cases h with
  | faults | blocks => rfl
  | quiet q => exact q.exitCode
  | stores _ _ run | puts _ _ run => exact run.exitCode
  | gets _ _ _ exitCode => exact exitCode
  | halts halt =>
    rcases halt with ⟨x, rfl⟩ | ⟨u, rfl⟩
    · exact absurd rfl hr
    · exact absurd rfl hi

/-- Settles O53: each field is read off the outcomes; the step adds IR and the trace. -/
theorem onlyStoresWriteMemory : Obligations.OnlyStoresWriteMemory := by
  refine ⟨fun i s t h => ?_, fun s t h => ?_⟩
  · have ho := outcome_of_exec h
    obtain ⟨hir, hcfg⟩ := ir_cfg_of_outcome ho
    exact ⟨mem_of_outcome ho, dev_of_outcome ho, exitCode_of_outcome ho, hir, hcfg, fun p hp => pages_of_outcome ho hp⟩
  · by_cases hrun : s.status = .halted
    · rw [step_halted hrun] at h
      cases h
      exact ⟨rfl, fun _ hp => hp⟩
    · cases outcome_of_step hrun h with
      | misaligned | illegal => exact ⟨rfl, fun _ hp => hp⟩
      | meaning _ _ _ ho =>
        rw [endStep_cfg, endStep_mem]
        exact ⟨(ir_cfg_of_outcome ho).2, fun p hp => pages_of_outcome ho hp⟩

/-! ### NOP, the fetch, and HALTED -/

/-- Settles O36: the meaning answers its own state, so the step is the fetch and the advance of pc. -/
theorem nopChangesNothing : Obligations.NopChangesNothing := by
  refine ⟨fun x y z => BitwiseLogic.encodes_bytes (k := .nop) (by decide) x y z, fun s => rfl, fun s hf hrun hj => ?_⟩
  have hstatus : (fetched s).status = .running := hrun
  refine ⟨_, step_of_fetches hf rfl, ?pc, endStep_ir _, endStep_jumped_running hstatus, (endStep_status _).trans hstatus,
    endStep_regs _, endStep_flags _, endStep_exitCode _, endStep_lastError _, endStep_mem _, endStep_dev _, endStep_cfg _⟩
  case pc => rw [endStep_pc_running hstatus, show (fetched s).jumped = false from hj, if_neg (by decide), add_four_eq_ofNat]; rfl

/-- What a trace-blind meaning answers has the events it started with below its own (R18). -/
theorem trace_extends {m : State → Result} (hm : TraceBlindness.TraceBlind m) {s t : State} (h : m s = .next t) :
    ∃ es, t.trace = es ++ s.trace := by
  have hblind := hm s.trace (untraced s)
  rw [show TraceBlindness.withOlder s.trace (untraced s) = s from rfl, h] at hblind
  cases hu : m (untraced s) with
  | next u =>
    rw [hu] at hblind
    cases hblind
    exact ⟨u.trace, rfl⟩
  | fault r => cases r
  | refused r => rw [hu] at hblind; cases hblind

/-- IR and the trace of the fetch stay through the meaning and the end of the step. -/
theorem fetched_of_meaning {s u : State} {i : Instr} (hu : exec i (fetched s) = .next u) :
    u.endStep.ir = wordAt s.mem s.pc.toNat ∧ ∃ es, u.endStep.trace = es ++ (fetched s).trace := by
  obtain ⟨hir, -⟩ := ir_cfg_of_outcome (outcome_of_exec hu)
  refine ⟨(endStep_ir u).trans hir, ?_⟩
  exact trace_extends (TraceBlindness.finishStep_traceBlind (TraceBlindness.exec_traceBlind i)) (by rw [hu]; rfl)

/-- In canonical memory the word of a page that is not allocated is 0 (R57, R111). -/
theorem wordAt_eq_zero_of_page_not_mem {m : Memory} (hm : m.wf) {a : Word} (ha : a.toNat % 4 = 0) (hp : pageOf a ∉ m.pages) :
    wordAt m a.toNat = 0 := by
  have hbyte : ∀ i, i < 4 → m.byte (a.toNat + i) = 0 := by
    intro i hi
    refine MemoryRead.byte_eq_zero_of_page_not_mem hm ?_
    have hpage : (a.toNat + i) / pageSize = pageOf a := by rw [pageOf, pageSize]; omega
    rwa [hpage]
  rw [wordAt, show m.byte a.toNat = 0 from hbyte 0 (by decide), hbyte 1 (by decide), hbyte 2 (by decide),
    hbyte 3 (by decide)]
  rfl

/-- Settles O42: the fetch faults at a misaligned pc; at an aligned one every outcome keeps the IR and the event it left. -/
theorem misalignedFetchHalts : Obligations.MisalignedFetchHalts := by
  refine ⟨fun s hrun hpc => ?_, fun s t hrun hpc h => ?_⟩
  · exact ⟨_, step_misaligned hrun hpc, rfl, rfl, ⟨rfl, rfl, rfl, rfl, rfl, rfl, rfl, rfl⟩, rfl, rfl⟩
  · have hfetch : t.ir = wordAt s.mem s.pc.toNat ∧ ∃ es, t.trace = es ++ (fetched s).trace := by
      cases outcome_of_step hrun h with
      | misaligned hmis => exact absurd hpc hmis
      | illegal => exact ⟨rfl, _, (List.singleton_append).symm⟩
      | meaning _ _ hu => exact fetched_of_meaning hu
    obtain ⟨hir, es, hes⟩ := hfetch
    refine ⟨hir, ⟨es.reverse, ?_⟩, fun hwf hp => hir.trans (wordAt_eq_zero_of_page_not_mem hwf hpc hp)⟩
    rw [State.Traced, hes, List.reverse_cons, List.reverse_reverse, List.append_assoc]
    rfl

/-- A run that starts in HALTED ends at once (R118, R121). -/
theorem runFuel_halted {s : State} (h : s.status = .halted) (n : Nat) : runFuel n s = some (s.exitCode, s) := by
  cases n <;> exact if_pos h

/-- Settles O41. -/
theorem haltedStepDoesNothing : Obligations.HaltedStepDoesNothing :=
  ⟨fun _ h => step_halted h, fun n _ h => runFuel_halted h n, fun _ => rfl⟩

end Sys2Proof.Laws.Steps
end

section
/-!
PROOF. The invariant of a block that only steps (State.Inv), and the state after reset (R41, R330). A halted state keeps it
with its memory, its registers and jumped; a running one needs its memory canonical and within PAGE_CAPACITY; a blocked one
stands at the GETC it was fetched from.
-/

namespace Sys2Proof.Laws.Invariant

open Sys2Proof Sys2Proof.Machine Sys2Proof.Claims Sys2Proof.Laws.Outcomes Sys2Proof.Laws.Steps

/-! ### The invariant by status -/

/-- Halting with memory, registers and jumped unchanged keeps the invariant, with an error recorded or none. -/
theorem inv_of_halted {s t : State} (hs : s.Inv) (hmem : t.mem = s.mem) (hcfg : t.cfg = s.cfg)
    (hzero : t.regs[0] = s.regs[0]) (hjumped : t.jumped = s.jumped) (hhalt : t.status = .halted) : t.Inv where
  memoryCanonical := hmem ▸ hs.memoryCanonical
  pagesFit := hmem ▸ hcfg ▸ hs.pagesFit
  registerZero := hzero.trans hs.registerZero
  jumpedClear := hjumped.trans hs.jumpedClear
  blockedAtGetc h := nomatch hhalt.symm.trans h
  errorHalted _ := hhalt

/-- A step that goes on ends with jumped clear (R29, R120), so its memory and registers are all the invariant asks. -/
theorem inv_endStep_running {u : State} (hrun : u.status = .running) (hwf : u.mem.wf)
    (hfit : fitsCapacity u.cfg.pageCapacity u.mem = true) (hzero : u.regs[0] = 0) (herr : u.lastError = none) :
    u.endStep.Inv where
  memoryCanonical := by rwa [endStep_mem]
  pagesFit := by rwa [endStep_mem, endStep_cfg]
  registerZero := by simp only [endStep_regs, hzero]
  jumpedClear := endStep_jumped_running hrun
  blockedAtGetc h := nomatch ((endStep_status u).trans hrun).symm.trans h
  errorHalted h := absurd ((endStep_lastError u).trans herr) h

/-- A write whose page is there, or which PAGE_CAPACITY leaves room for, stays within PAGE_CAPACITY (R58, R62). -/
theorem fitsCapacity_write {capacity : Option Nat} {m : Memory} (hwf : m.wf) {a : Word} (n : Width) (v : Word)
    (hfit : fitsCapacity capacity m = true) (hroom : Memory.pageFails capacity m a = false) :
    fitsCapacity capacity (m.write a n v) = true := by
  cases capacity with
  | none => rfl
  | some k =>
    obtain ⟨-, -, hdistinct, -⟩ := hwf
    have hlen : m.pages.length ≤ k := of_decide_eq_true hfit
    refine decide_eq_true ?_
    by_cases hp : pageOf a ∈ m.pages
    · exact (congrArg List.length (addPage_of_mem hdistinct hp)).trans_le hlen
    · have hne : k ≠ m.pages.length := by simpa [Memory.pageFails, hp] using hroom
      have hadd : (m.write a n v).pages.length ≤ m.pages.length + 1 := addPage_length_le m.pages (pageOf a)
      omega

/-! ### The three cases of a meaning -/

/-- GETC: it goes on with the character, or blocks at its own word, which is still at pc. -/
theorem inv_step_getc {s u : State} {x : RegIdx} (hs : s.Inv) (hrun : s.status ≠ .halted) (hpc : s.pc.toNat % 4 = 0)
    (hdecode : decodeWord s.cfg.opmap (wordAt s.mem s.pc.toNat) = .ok (.getc x))
    (hu : exec (.getc x) (fetched s) = .next u) : u.endStep.Inv := by
  have herr : s.lastError = none := not_not.mp fun h => hrun (hs.errorHalted h)
  rcases execGetc_cases x (fetched s) with ⟨-, h⟩ | ⟨c, rest, -, h⟩
  · obtain rfl := Host.Outcome.next.inj (h.symm.trans hu)
    rw [endStep_blocked rfl]
    refine ⟨hs.memoryCanonical, hs.pagesFit, hs.registerZero, hs.jumpedClear, fun _ => ⟨hpc, x, ?_⟩, fun h => absurd herr h⟩
    have hword : s.nextWord = wordAt s.mem s.pc.toNat := by
      rw [State.nextWord, IllegalOpcode.read_b4_eq_wordAt, IllegalOpcode.setWidth_setWidth_word]
    exact hword.symm ▸ hdecode
  · obtain rfl := Host.Outcome.next.inj (h.symm.trans hu)
    refine inv_endStep_running rfl ?_ ?_ ?_ ?_
    · rw [setStatus_mem, writeReg_mem]
      exact hs.memoryCanonical
    · rw [setStatus_mem, setStatus_cfg, writeReg_mem, writeReg_cfg]
      exact hs.pagesFit
    · simp only [setStatus_regs, writeReg_regs_zero]
      exact hs.registerZero
    · rw [setStatus_lastError, writeReg_lastError]
      exact herr

/-- Any other instruction, in RUNNING: each outcome keeps its memory or writes it within the checks, and blocks nowhere. -/
theorem inv_step_running {s u : State} {i : Instr} (hs : s.Inv) (hrun : s.status = .running) (hi : ∀ x, i ≠ .getc x)
    (ho : Outcome i (fetched s) u) : u.endStep.Inv := by
  have herr : s.lastError = none := not_not.mp fun h => nomatch hrun.symm.trans (hs.errorHalted h)
  cases ho with
  | faults tr e => exact endStep_faulted _ e ▸ inv_of_halted hs rfl rfl rfl rfl rfl
  | quiet q =>
    exact inv_endStep_running (q.status.trans hrun) (q.mem ▸ hs.memoryCanonical) (q.mem ▸ q.cfg ▸ hs.pagesFit)
      (q.slotZero.trans hs.registerZero) (q.lastError.trans herr)
  | stores _ frame run _ checked room mem =>
    exact inv_endStep_running (run.status.trans hrun) (mem ▸ write_wf hs.memoryCanonical checked _)
      (mem ▸ frame.cfg ▸ fitsCapacity_write hs.memoryCanonical _ _ hs.pagesFit room)
      (frame.slotZero.trans hs.registerZero) (run.lastError.trans herr)
  | puts _ frame run mem =>
    exact inv_endStep_running (run.status.trans hrun) (mem ▸ hs.memoryCanonical) (mem ▸ frame.cfg ▸ hs.pagesFit)
      (frame.slotZero.trans hs.registerZero) (run.lastError.trans herr)
  | halts _ frame mem _ jumped status noError =>
    rw [endStep_halted status, if_pos noError]
    exact inv_of_halted hs mem frame.cfg frame.slotZero jumped status
  | gets get | blocks get => obtain ⟨x, rfl⟩ := get; exact absurd rfl (hi x)

/-- Settles O47: a step that fetches a GETC, or one in RUNNING; a BLOCKED step fetches the GETC the invariant puts at pc. -/
theorem stepsKeepTheInvariant : Obligations.StepsKeepTheInvariant := by
  intro s t hs h
  by_cases hrun : s.status = .halted
  · rw [step_halted hrun] at h
    cases h
    exact hs
  · cases outcome_of_step hrun h with
    | misaligned | illegal => exact inv_of_halted hs rfl rfl rfl rfl rfl
    | @meaning i u hpc hdecode hu ho =>
      by_cases hget : ∃ x, i = .getc x
      · obtain ⟨x, rfl⟩ := hget
        exact inv_step_getc hs hrun hpc hdecode hu
      · refine inv_step_running hs ?_ (fun x hx => hget ⟨x, hx⟩) ho
        cases hst : s.status with
        | running => rfl
        | halted => exact absurd hst hrun
        | blocked =>
          obtain ⟨-, x, hx⟩ := hs.blockedAtGetc hst
          rw [State.nextWord, IllegalOpcode.read_b4_eq_wordAt, IllegalOpcode.setWidth_setWidth_word, hdecode] at hx
          exact absurd ⟨x, Except.ok.inj hx⟩ hget

/-! ### Reset (R41, R330) -/

theorem reset_regs (i : Fin 256) : State.reset.regs[i] = 0 := by simp [State.reset]

theorem reset_reg (i : RegIdx) : State.reset.reg i = 0 := by simp [State.reg, State.reset]

/-- Settles O56: every field of the reset state is written out in its definition, and the host's reset sets them again. -/
theorem resetValues : Obligations.ResetValues :=
  ⟨reset_reg, reset_regs, rfl, rfl, rfl, rfl, rfl, rfl, rfl, rfl, fun _ => rfl,
    fun _ => ⟨rfl, rfl, rfl, rfl, rfl, rfl, rfl, rfl, rfl, rfl, rfl, rfl⟩⟩

/-- Memory with no page fits every PAGE_CAPACITY (R62). -/
theorem fitsCapacity_reset (capacity : Option Nat) : fitsCapacity capacity State.reset.mem = true := by
  cases capacity with
  | none => rfl
  | some n => exact decide_eq_true n.zero_le

/-- Settles O48: the host's reset leaves the reset state but for the device, the trace and the parameters. -/
theorem resetHasTheInvariant : Obligations.ResetHasTheInvariant :=
  ⟨⟨reset_mem_wf, fitsCapacity_reset _, reset_regs 0, rfl, nofun, nofun⟩,
    fun s => ⟨reset_mem_wf, fitsCapacity_reset s.cfg.pageCapacity, reset_regs 0, rfl, nofun, nofun⟩⟩

end Sys2Proof.Laws.Invariant
end

section
/-!
PROOF. The memory write (R58 to R60): its checks as for a read, the page it needs, and the bytes it stores as digits of the
value in base 256, so that reading them back gives the value modulo 2^(8n) (R52, R66).
-/

namespace Sys2Proof.Laws.MemoryWrite

open Sys2Proof Sys2Proof.Machine Sys2Proof.Claims Sys2Proof.Laws.MemoryRead

/-! ### The page of a write (R58, R62) -/

theorem pageFails_eq_false_iff {capacity : Option Nat} {m : Memory} {a : Word} :
    Memory.pageFails capacity m a = false ↔ pageOf a ∈ m.pages ∨ capacity ≠ some m.pages.length := by
  simp [Memory.pageFails, or_iff_not_imp_left]

theorem pageFails_eq_true_iff {capacity : Option Nat} {m : Memory} {a : Word} :
    Memory.pageFails capacity m a = true ↔ pageOf a ∉ m.pages ∧ capacity = some m.pages.length := by
  simp [Memory.pageFails]

/-! ### The write's answers -/

theorem memWrite_fault {a : Word} {n : Width} {e : ErrorRecord} (h : accessError a n = some e) (v : Word) (s : State)
    (k : State → Result) : memWrite a n v s k = .next (s.faulted e) := by
  simp only [memWrite, h, raise_eq]

theorem memWrite_no_page {a : Word} {n : Width} (h : accessError a n = none) {s : State}
    (hp : Memory.pageFails s.cfg.pageCapacity s.mem a = true) (v : Word) (k : State → Result) :
    memWrite a n v s k = .next (s.faulted (.pageAllocFailure a n)) := by
  simp only [memWrite, h, hp, if_true, raise_eq]

/-! ### The bytes of a write as digits (R52) -/

theorem setWidth_shiftRight (v : Word) (k : Nat) : (v >>> k).setWidth 8 = BitVec.ofNat 8 (v.toNat / 2 ^ k) := by
  apply BitVec.eq_of_toNat_eq
  rw [BitVec.toNat_setWidth, BitVec.toNat_ushiftRight, Nat.shiftRight_eq_div_pow, BitVec.toNat_ofNat]

theorem write_byte_digit {m : Memory} (h : m.wf) {a : Word} {n : Width} {i : Nat} (v : Word) (hi : i < widthBytes n) :
    (m.write a n v).byte (a.toNat + i) = BitVec.ofNat 8 (v.toNat / 2 ^ (8 * (widthBytes n - 1 - i))) := by
  rw [write_byte_inside h v hi, setWidth_shiftRight]

theorem mem_write_pages {m : Memory} {a : Word} {n : Width} {v : Word} {p : Nat} :
    p ∈ (m.write a n v).pages ↔ p = pageOf a ∨ p ∈ m.pages := mem_addPage

/-- Bytes that are the digits of `v` in base 256, most significant first, hold `v` modulo 2^(8n). -/
theorem bigEndian_of_digits {m : Memory} {a n v : Nat}
    (h : ∀ i, i < n → m.byte (a + i) = BitVec.ofNat 8 (v / 2 ^ (8 * (n - 1 - i)))) : bigEndian m a n = v % 2 ^ (8 * n) := by
  induction n generalizing v with
  | zero => simp [bigEndian, Nat.mod_one]
  | succ n ih =>
    have hlast : (m.byte (a + n)).toNat = v % 256 := by
      rw [h n (Nat.lt_succ_self n), show n + 1 - 1 - n = 0 by omega, Nat.mul_zero, Nat.pow_zero, Nat.div_one,
        BitVec.toNat_ofNat]
    have hrest : bigEndian m a n = v / 256 % 2 ^ (8 * n) := by
      refine ih fun i hi => ?_
      have hpow : 256 * 2 ^ (8 * (n - 1 - i)) = 2 ^ (8 * (n + 1 - 1 - i)) := by
        rw [show n + 1 - 1 - i = n - 1 - i + 1 by omega, Nat.mul_succ, Nat.pow_add, Nat.mul_comm]
      rw [h i (Nat.lt_succ_of_lt hi), Nat.div_div_eq_div_mul, hpow]
    have hpow : 2 ^ (8 * (n + 1)) = 256 * 2 ^ (8 * n) := by rw [Nat.mul_succ, Nat.pow_add, Nat.mul_comm]
    rw [bigEndian, hrest, hlast, hpow, Nat.mod_mul]
    omega

theorem bigEndian_congr {m m' : Memory} {a n : Nat} (h : ∀ i, i < n → m'.byte (a + i) = m.byte (a + i)) :
    bigEndian m' a n = bigEndian m a n := by
  induction n with
  | zero => rfl
  | succ n ih => rw [bigEndian, bigEndian, ih fun i hi => h i (Nat.lt_succ_of_lt hi), h n (Nat.lt_succ_self n)]

/-! ### The statements -/

/-- Settles O9: the two checks in the order of R58, the page, and the write of `write_byte_digit`. -/
theorem memWritePrimitive : Obligations.MemWritePrimitive := by
  refine fun a n v s k hwf => ⟨fun hmis => ?misaligned, fun hal hout => ?outOfBounds, fun hal hin hp hcap => ?full,
    fun hal hin hroom => ?written, fun e => rfl⟩
  case misaligned => exact memWrite_fault (accessError_misaligned hmis) v s k
  case outOfBounds => exact memWrite_fault (accessError_outOfBounds hal hout) v s k
  case full => exact memWrite_no_page (accessError_none hal hin) (pageFails_eq_true_iff.mpr ⟨hp, hcap⟩) v k
  case written =>
    have hok := accessError_none hal hin
    exact ⟨s.mem.write a n v, memWrite_ok hok (pageFails_eq_false_iff.mpr hroom) v k, write_wf hwf hok v,
      fun j hj => write_byte_digit hwf v hj, fun b hb => write_byte_outside hwf v hb, fun p => mem_write_pages⟩

/-- Settles O10: the bytes read back are the digits written, and bytes elsewhere are as before. -/
theorem writeThenReadRoundTrip : Obligations.WriteThenReadRoundTrip := by
  intro m a n v hwf hok
  refine ⟨?same, fun b k hdisjoint => ?elsewhere⟩
  case same => rw [read_eq_ofNat, bigEndian_of_digits fun i hi => write_byte_digit hwf v hi]
  case elsewhere =>
    rw [read_eq_ofNat, read_eq_ofNat, bigEndian_congr fun i hi => write_byte_outside hwf v (by omega)]

/-- Settles O11: the three examples are evaluated. -/
theorem sourceMemoryExamples : Obligations.SourceMemoryExamples := by
  unfold Obligations.SourceMemoryExamples
  decide

end Sys2Proof.Laws.MemoryWrite
end

section
/-!
PROOF. The words of the register formats decode to their instructions (R87, R90), and the state a meaning stands in after its
register reads, where the writes of one register and the flags have the effect the statements name.
-/

namespace Sys2Proof.Laws.RegisterForms

open Sys2Proof Sys2Proof.Machine Sys2Proof.Claims Sys2Proof.Laws.RegisterEffects Sys2Proof.Laws.BitwiseLogic

/-! ### Words of an opcode and three operand bytes (R87, formats RRR, IRR, SRR, RSR and MD, MX) -/

section Encodings

variable {op : Byte} {k : Kind}

theorem encodes_rrr {c : RegIdx → RegIdx → RegIdx → Instr} (hk : refOpmap.kindAt op = some k)
    (hc : ∀ F, k.assemble F = c F.rX F.rY F.rZ) (x y z : Byte) : Encodes (op ++ x ++ y ++ z) (c x y z) := by
  have h := encodes_bytes hk x y z
  rwa [hc, rX_packBytes, rY_packBytes, rZ_packBytes] at h

theorem encodes_irr {c : Word → RegIdx → RegIdx → Instr} (hk : refOpmap.kindAt op = some k)
    (hc : ∀ F, k.assemble F = c F.uX F.rY F.rZ) (u y z : Byte) : Encodes (op ++ u ++ y ++ z) (c (zeroExt u) y z) := by
  have h := encodes_bytes hk u y z
  rwa [hc, rY_packBytes, rZ_packBytes,
    show (decodeOperands (packBytes u y z)).uX = zeroExt u from congrArg zeroExt (byteX_packBytes u y z)] at h

theorem encodes_srr {c : Word → RegIdx → RegIdx → Instr} (hk : refOpmap.kindAt op = some k)
    (hc : ∀ F, k.assemble F = c F.sX F.rY F.rZ) (d y z : Byte) : Encodes (op ++ d ++ y ++ z) (c (signExt d) y z) := by
  have h := encodes_bytes hk d y z
  rwa [hc, rY_packBytes, rZ_packBytes,
    show (decodeOperands (packBytes d y z)).sX = signExt d from congrArg signExt (byteX_packBytes d y z)] at h

theorem encodes_rsr {c : RegIdx → Word → RegIdx → Instr} (hk : refOpmap.kindAt op = some k)
    (hc : ∀ F, k.assemble F = c F.rX F.sY F.rZ) (x v z : Byte) : Encodes (op ++ x ++ v ++ z) (c x (signExt v) z) := by
  have h := encodes_bytes hk x v z
  rwa [hc, rX_packBytes, rZ_packBytes,
    show (decodeOperands (packBytes x v z)).sY = signExt v from congrArg signExt (byteY_packBytes x v z)] at h

end Encodings

/-! ### The state after some events (R317) -/

/-- The state with `events` on the trace port, the first one first, and nothing else changed: what reads leave. -/
def withEvents (s : State) (events : List TraceEvent) : State := { s with trace := events.reverse ++ s.trace }

theorem withEvents_emit (s : State) (events : List TraceEvent) (e : TraceEvent) :
    (withEvents s events).emit e = withEvents s (events ++ [e]) := by
  rw [withEvents, withEvents, List.reverse_append]
  rfl

/-- Flags and one register written after some reads: the effect, and the write's event after theirs. -/
theorem effect_setFlags_writeReg (s : State) (reads : List TraceEvent) (f : Flags) (z : RegIdx) (v : Word) :
    s.WritesReg (((withEvents s reads).setFlags f).writeReg z v) z v
      ∧ (((withEvents s reads).setFlags f).writeReg z v).flags = f
      ∧ s.SameButRegsFlags (((withEvents s reads).setFlags f).writeReg z v)
      ∧ s.Traced (((withEvents s reads).setFlags f).writeReg z v) (reads ++ [TraceEvent.regWrite z v]) := by
  refine ⟨writesReg_of_regs (writesReg_writeReg ((withEvents s reads).setFlags f) z v) rfl rfl, writeReg_flags _ z v, ?_, ?_⟩
  · have hevents : s.SameButRegsFlags ((withEvents s reads).setFlags f) :=
      ⟨⟨⟨rfl, rfl, rfl, rfl, rfl⟩, rfl, rfl⟩, ⟨fun _ => rfl, rfl⟩, rfl⟩
    exact sameButRegsFlags_trans hevents (sameButRegsFlags_writeReg _ z v)
  · rw [State.Traced, writeReg_trace, List.reverse_append]
    rfl

/-- One register written after some reads, and no flag. -/
theorem effect_writeReg (s : State) (reads : List TraceEvent) (z : RegIdx) (v : Word) :
    WritesNoFlag v z s ((withEvents s reads).writeReg z v)
      ∧ s.Traced ((withEvents s reads).writeReg z v) (reads ++ [TraceEvent.regWrite z v]) := by
  obtain ⟨hreg, hflags, hrest, htrace⟩ := effect_setFlags_writeReg s reads s.flags z v
  exact ⟨⟨hreg, hflags, hrest⟩, htrace⟩

/-- A fault after some reads is a trap: the reads stay on the trace port, and nothing else has changed (R305, R307). -/
theorem traps_of_raise {i : Instr} {s : State} {e : ErrorRecord} (reads : List TraceEvent)
    (h : exec i s = raise e (withEvents s reads)) : TrapsWith i s e :=
  ⟨_, h, rfl, rfl, ⟨rfl, rfl, rfl, rfl, rfl, rfl, rfl, rfl⟩, rfl, rfl⟩

end Sys2Proof.Laws.RegisterForms
end

section
/-!
PROOF. The 55 memory instructions (R180 to R239). Each is one of the two shared operations at the address its mode gives
(`AddressedBy`), so that what a load, a store and a fault of either does is proved once for every width, address and mode.
-/

namespace Sys2Proof.Laws.MemoryInstructions

open Sys2Proof Sys2Proof.Machine Sys2Proof.Claims Sys2Proof.Laws.Outcomes Sys2Proof.Laws.RegisterForms
open Sys2Proof.Laws.MemoryWrite Sys2Proof.Laws.MemoryRead

/-! ### Addressing modes (R180, R182) -/

/-- In `s` the instruction is the operation `op` at the address `ea`, after the reads of its address registers. -/
def AddressedBy (i : Instr) (s : State) (op : Word → State → Result) (ea : Word) (reads : List TraceEvent) : Prop :=
  exec i s = op ea (withEvents s reads)

theorem addressed_disp {i : Instr} {s : State} {op : Word → State → Result} {d : Word} {y : RegIdx}
    (h : exec i s = dispAddress d y s op) : AddressedBy i s op (eaD s d y) (readsD s y) := h

theorem addressed_scaled {i : Instr} {s : State} {op : Word → State → Result} {x y : RegIdx} {scale : Nat}
    (h : exec i s = scaledAddress scale x y s op) : AddressedBy i s op (eaS s x y scale) (readsS s x y) := h

/-! ### The extensions of loaded values (R10, R181) -/

/-- Zero extension changes nothing of a number that fits its bytes. -/
theorem zextLow_read (m : Memory) (a : Word) (n : Width) :
    zextLow (8 * widthBytes n) (m.read a n) = BitVec.ofNat 64 (bigEndian m a.toNat (widthBytes n)) := by
  have hn : 8 * widthBytes n ≤ 64 := Nat.mul_le_mul_left 8 (widthBytes_le n)
  have hlt := bigEndian_lt m a.toNat (widthBytes n)
  rw [zextLow, read_eq_ofNat, BitVec.setWidth_ofNat_of_le hn]
  apply BitVec.eq_of_toNat_eq
  rw [BitVec.toNat_setWidth, BitVec.toNat_ofNat, BitVec.toNat_ofNat, Nat.mod_eq_of_lt hlt]

/-- Sign extension gives the two's-complement value of the number. -/
theorem sextLow_read (m : Memory) (a : Word) (n : Width) :
    sextLow (8 * widthBytes n) (m.read a n)
      = BitVec.ofInt 64 (signedBytes (widthBytes n) (bigEndian m a.toNat (widthBytes n))) := by
  have hn : 8 * widthBytes n ≤ 64 := Nat.mul_le_mul_left 8 (widthBytes_le n)
  have hlt := bigEndian_lt m a.toNat (widthBytes n)
  rw [sextLow, read_eq_ofNat, BitVec.setWidth_ofNat_of_le hn, BitVec.signExtend, OperandValues.toInt_eq_signedBytes,
    BitVec.toNat_ofNat, Nat.mod_eq_of_lt hlt]

/-! ### Loads (R181, R184) -/

section Loads

variable {i : Instr} {s : State} {n : Width} {z : RegIdx} {ea : Word} {reads : List TraceEvent}

/-- An aligned load writes its extended value to x[z], after its reads and the memory read. -/
theorem loads_of_addressed {ext : Word → Word} {v : Word} (hn : PowerWidth n) (h : AddressedBy i s (loadAt n ext z) ea reads)
    (hv : ext (s.mem.read ea n) = v) : Loads i s n ea v z reads := by
  intro hal
  have hok : accessError ea n = none := (accessError_power hn ea).trans (if_pos hal)
  have hexec : exec i s
      = .next ((withEvents s (reads ++ [TraceEvent.memRead ea n (s.mem.read ea n)])).writeReg z (ext (s.mem.read ea n))) := by
    rw [h, loadAt, memRead_ok hok, withEvents_emit]
    rfl
  obtain ⟨heffect, htrace⟩ :=
    effect_writeReg s (reads ++ [TraceEvent.memRead ea n (s.mem.read ea n)]) z (ext (s.mem.read ea n))
  rw [hv] at hexec heffect htrace
  rw [List.append_assoc, read_eq_ofNat] at htrace
  exact ⟨_, hexec, heffect, read_eq_ofNat s.mem ea n ▸ htrace⟩

theorem loads_unsigned (hn : PowerWidth n) (h : AddressedBy i s (loadAt n (zextLow (8 * widthBytes n)) z) ea reads) :
    Loads i s n ea (loadedUnsigned s n ea) z reads :=
  loads_of_addressed hn h (zextLow_read s.mem ea n)

theorem loads_signed (hn : PowerWidth n) (h : AddressedBy i s (loadAt n (sextLow (8 * widthBytes n)) z) ea reads) :
    Loads i s n ea (loadedSigned s n ea) z reads :=
  loads_of_addressed hn h (sextLow_read s.mem ea n)

theorem loads_plain (hn : PowerWidth n) (h : AddressedBy i s (loadAt n plainValue z) ea reads) :
    Loads i s n ea (loadedUnsigned s n ea) z reads :=
  loads_of_addressed hn h (read_eq_ofNat s.mem ea n)

theorem load_traps_misaligned {ext : Word → Word} (hn : PowerWidth n) (h : AddressedBy i s (loadAt n ext z) ea reads)
    (hmis : ea.toNat % widthBytes n ≠ 0) : TrapsWith i s (.memoryMisaligned ea n) := by
  refine traps_of_raise reads ?_
  rw [h, loadAt, memRead_fault ((accessError_power hn ea).trans (if_neg hmis)), raise_eq]

end Loads

/-! ### Stores (R183, R184) -/

section Stores

variable {i : Instr} {s : State} {n : Width} {z : RegIdx} {ea : Word} {reads : List TraceEvent}

/-- A store reads x[z] and writes it to memory. -/
theorem exec_store (h : AddressedBy i s (storeAt n z) ea reads) :
    exec i s = memWrite ea n (s.reg z) (withEvents s (reads ++ [TraceEvent.regRead z (s.reg z)])) .next := by
  rw [h, storeAt, readReg_eq, withEvents_emit]
  rfl

/-- An aligned store whose page is there or can be allocated writes the digits of x[z], and nothing else. -/
theorem stores_of_addressed (hn : PowerWidth n) (h : AddressedBy i s (storeAt n z) ea reads) :
    Stores i s n ea z reads := by
  intro hwf hal hroom
  have hok : accessError ea n = none := (accessError_power hn ea).trans (if_pos hal)
  have hexec := (exec_store h).trans
    (memWrite_ok (s := withEvents s (reads ++ [TraceEvent.regRead z (s.reg z)])) hok (pageFails_eq_false_iff.mpr hroom) _ _)
  refine ⟨_, hexec, fun k hk => write_byte_digit hwf _ hk, fun b hb => write_byte_outside hwf _ hb,
    fun p => mem_write_pages, rfl, rfl, ⟨⟨rfl, rfl, rfl, rfl, rfl⟩, rfl, rfl⟩, rfl, ?_⟩
  rw [State.Traced, emit_trace, setMem_trace, withEvents, List.reverse_append, List.reverse_append]
  rfl

theorem store_traps_misaligned (hn : PowerWidth n) (h : AddressedBy i s (storeAt n z) ea reads)
    (hmis : ea.toNat % widthBytes n ≠ 0) : TrapsWith i s (.memoryMisaligned ea n) := by
  refine traps_of_raise (reads ++ [TraceEvent.regRead z (s.reg z)]) ?_
  rw [exec_store h, memWrite_fault ((accessError_power hn ea).trans (if_neg hmis)), raise_eq]

theorem store_traps_full (hn : PowerWidth n) (h : AddressedBy i s (storeAt n z) ea reads)
    (hal : ea.toNat % widthBytes n = 0) (hfull : ¬ s.pageReady ea) : TrapsWith i s (.pageAllocFailure ea n) := by
  refine traps_of_raise (reads ++ [TraceEvent.regRead z (s.reg z)]) ?_
  have hpage : Memory.pageFails s.cfg.pageCapacity s.mem ea = true :=
    Bool.of_not_eq_false fun hp => hfull (pageFails_eq_false_iff.mp hp)
  exact (exec_store h).trans (memWrite_no_page (s := withEvents s (reads ++ [TraceEvent.regRead z (s.reg z)]))
    ((accessError_power hn ea).trans (if_pos hal)) hpage _ _)

end Stores

/-! ### The completion statements -/

/-- Settles O23: each opcode is mapped to its kind, and each kind is its load at the address of R180. -/
theorem displacementLoadsComplete : Obligations.DisplacementLoadsComplete := by
  refine ⟨encodes_srr (k := .ldu1D) (by decide) fun _ => rfl, encodes_srr (k := .ldu2D) (by decide) fun _ => rfl,
    encodes_srr (k := .ldu4D) (by decide) fun _ => rfl, encodes_srr (k := .ld8D) (by decide) fun _ => rfl,
    encodes_srr (k := .lds1D) (by decide) fun _ => rfl, encodes_srr (k := .lds2D) (by decide) fun _ => rfl,
    encodes_srr (k := .lds4D) (by decide) fun _ => rfl, fun d y z s => ?loads⟩
  case loads =>
    exact ⟨loads_unsigned powerWidth_b1 (addressed_disp rfl), loads_unsigned powerWidth_b2 (addressed_disp rfl),
      loads_unsigned powerWidth_b4 (addressed_disp rfl), loads_plain powerWidth_b8 (addressed_disp rfl),
      loads_signed powerWidth_b1 (addressed_disp rfl), loads_signed powerWidth_b2 (addressed_disp rfl),
      loads_signed powerWidth_b4 (addressed_disp rfl)⟩

/-- Settles O24: each opcode is mapped to its kind, and each kind is its load at the address of R182. -/
theorem scaledLoadsComplete : Obligations.ScaledLoadsComplete := by
  refine ⟨encodes_rrr (k := .ldu1S1) (by decide) fun _ => rfl, encodes_rrr (k := .ldu2S1) (by decide) fun _ => rfl,
    encodes_rrr (k := .ldu4S1) (by decide) fun _ => rfl, encodes_rrr (k := .ld8S1) (by decide) fun _ => rfl,
    encodes_rrr (k := .lds1S1) (by decide) fun _ => rfl, encodes_rrr (k := .lds2S1) (by decide) fun _ => rfl,
    encodes_rrr (k := .lds4S1) (by decide) fun _ => rfl, encodes_rrr (k := .ldu1S2) (by decide) fun _ => rfl,
    encodes_rrr (k := .ldu2S2) (by decide) fun _ => rfl, encodes_rrr (k := .ldu4S2) (by decide) fun _ => rfl,
    encodes_rrr (k := .ld8S2) (by decide) fun _ => rfl, encodes_rrr (k := .lds1S2) (by decide) fun _ => rfl,
    encodes_rrr (k := .lds2S2) (by decide) fun _ => rfl, encodes_rrr (k := .lds4S2) (by decide) fun _ => rfl,
    encodes_rrr (k := .ldu1S4) (by decide) fun _ => rfl, encodes_rrr (k := .ldu2S4) (by decide) fun _ => rfl,
    encodes_rrr (k := .ldu4S4) (by decide) fun _ => rfl, encodes_rrr (k := .ld8S4) (by decide) fun _ => rfl,
    encodes_rrr (k := .lds1S4) (by decide) fun _ => rfl, encodes_rrr (k := .lds2S4) (by decide) fun _ => rfl,
    encodes_rrr (k := .lds4S4) (by decide) fun _ => rfl, encodes_rrr (k := .ldu1S8) (by decide) fun _ => rfl,
    encodes_rrr (k := .ldu2S8) (by decide) fun _ => rfl, encodes_rrr (k := .ldu4S8) (by decide) fun _ => rfl,
    encodes_rrr (k := .ld8S8) (by decide) fun _ => rfl, encodes_rrr (k := .lds1S8) (by decide) fun _ => rfl,
    encodes_rrr (k := .lds2S8) (by decide) fun _ => rfl, encodes_rrr (k := .lds4S8) (by decide) fun _ => rfl,
    fun x y z s => ?loads⟩
  case loads =>
    exact ⟨loads_unsigned powerWidth_b1 (addressed_scaled rfl), loads_unsigned powerWidth_b2 (addressed_scaled rfl),
      loads_unsigned powerWidth_b4 (addressed_scaled rfl), loads_plain powerWidth_b8 (addressed_scaled rfl),
      loads_signed powerWidth_b1 (addressed_scaled rfl), loads_signed powerWidth_b2 (addressed_scaled rfl),
      loads_signed powerWidth_b4 (addressed_scaled rfl), loads_unsigned powerWidth_b1 (addressed_scaled rfl),
      loads_unsigned powerWidth_b2 (addressed_scaled rfl), loads_unsigned powerWidth_b4 (addressed_scaled rfl),
      loads_plain powerWidth_b8 (addressed_scaled rfl), loads_signed powerWidth_b1 (addressed_scaled rfl),
      loads_signed powerWidth_b2 (addressed_scaled rfl), loads_signed powerWidth_b4 (addressed_scaled rfl),
      loads_unsigned powerWidth_b1 (addressed_scaled rfl), loads_unsigned powerWidth_b2 (addressed_scaled rfl),
      loads_unsigned powerWidth_b4 (addressed_scaled rfl), loads_plain powerWidth_b8 (addressed_scaled rfl),
      loads_signed powerWidth_b1 (addressed_scaled rfl), loads_signed powerWidth_b2 (addressed_scaled rfl),
      loads_signed powerWidth_b4 (addressed_scaled rfl), loads_unsigned powerWidth_b1 (addressed_scaled rfl),
      loads_unsigned powerWidth_b2 (addressed_scaled rfl), loads_unsigned powerWidth_b4 (addressed_scaled rfl),
      loads_plain powerWidth_b8 (addressed_scaled rfl), loads_signed powerWidth_b1 (addressed_scaled rfl),
      loads_signed powerWidth_b2 (addressed_scaled rfl), loads_signed powerWidth_b4 (addressed_scaled rfl)⟩

/-- Settles O25: each opcode is mapped to its kind, and each kind is its store at the address of R180. -/
theorem displacementStoresComplete : Obligations.DisplacementStoresComplete := by
  refine ⟨encodes_srr (k := .st1D) (by decide) fun _ => rfl, encodes_srr (k := .st2D) (by decide) fun _ => rfl,
    encodes_srr (k := .st4D) (by decide) fun _ => rfl, encodes_srr (k := .st8D) (by decide) fun _ => rfl,
    fun d y z s => ?stores⟩
  case stores =>
    exact ⟨stores_of_addressed powerWidth_b1 (addressed_disp rfl),
      stores_of_addressed powerWidth_b2 (addressed_disp rfl), stores_of_addressed powerWidth_b4 (addressed_disp rfl),
      stores_of_addressed powerWidth_b8 (addressed_disp rfl)⟩

/-- Settles O26: each opcode is mapped to its kind, and each kind is its store at the address of R182. -/
theorem scaledStoresComplete : Obligations.ScaledStoresComplete := by
  refine ⟨encodes_rrr (k := .st1S1) (by decide) fun _ => rfl, encodes_rrr (k := .st2S1) (by decide) fun _ => rfl,
    encodes_rrr (k := .st4S1) (by decide) fun _ => rfl, encodes_rrr (k := .st8S1) (by decide) fun _ => rfl,
    encodes_rrr (k := .st1S2) (by decide) fun _ => rfl, encodes_rrr (k := .st2S2) (by decide) fun _ => rfl,
    encodes_rrr (k := .st4S2) (by decide) fun _ => rfl, encodes_rrr (k := .st8S2) (by decide) fun _ => rfl,
    encodes_rrr (k := .st1S4) (by decide) fun _ => rfl, encodes_rrr (k := .st2S4) (by decide) fun _ => rfl,
    encodes_rrr (k := .st4S4) (by decide) fun _ => rfl, encodes_rrr (k := .st8S4) (by decide) fun _ => rfl,
    encodes_rrr (k := .st1S8) (by decide) fun _ => rfl, encodes_rrr (k := .st2S8) (by decide) fun _ => rfl,
    encodes_rrr (k := .st4S8) (by decide) fun _ => rfl, encodes_rrr (k := .st8S8) (by decide) fun _ => rfl,
    fun x y z s => ?stores⟩
  case stores =>
    exact ⟨stores_of_addressed powerWidth_b1 (addressed_scaled rfl),
      stores_of_addressed powerWidth_b2 (addressed_scaled rfl),
      stores_of_addressed powerWidth_b4 (addressed_scaled rfl),
      stores_of_addressed powerWidth_b8 (addressed_scaled rfl),
      stores_of_addressed powerWidth_b1 (addressed_scaled rfl),
      stores_of_addressed powerWidth_b2 (addressed_scaled rfl),
      stores_of_addressed powerWidth_b4 (addressed_scaled rfl),
      stores_of_addressed powerWidth_b8 (addressed_scaled rfl),
      stores_of_addressed powerWidth_b1 (addressed_scaled rfl),
      stores_of_addressed powerWidth_b2 (addressed_scaled rfl),
      stores_of_addressed powerWidth_b4 (addressed_scaled rfl),
      stores_of_addressed powerWidth_b8 (addressed_scaled rfl),
      stores_of_addressed powerWidth_b1 (addressed_scaled rfl),
      stores_of_addressed powerWidth_b2 (addressed_scaled rfl),
      stores_of_addressed powerWidth_b4 (addressed_scaled rfl),
      stores_of_addressed powerWidth_b8 (addressed_scaled rfl)⟩

/-! ### The traps -/

/-- Settles O28: the access of every kind wider than a byte is misaligned exactly at such an address (R53, R184). -/
theorem misalignedAccessesTrap : Obligations.MisalignedAccessesTrap := by
  refine ⟨fun d y z s => ?disp, fun x y z s => ?scaled⟩
  case disp =>
    exact ⟨load_traps_misaligned powerWidth_b2 (addressed_disp rfl),
      load_traps_misaligned powerWidth_b4 (addressed_disp rfl),
      load_traps_misaligned powerWidth_b8 (addressed_disp rfl),
      load_traps_misaligned powerWidth_b2 (addressed_disp rfl),
      load_traps_misaligned powerWidth_b4 (addressed_disp rfl),
      store_traps_misaligned powerWidth_b2 (addressed_disp rfl),
      store_traps_misaligned powerWidth_b4 (addressed_disp rfl),
      store_traps_misaligned powerWidth_b8 (addressed_disp rfl)⟩
  case scaled =>
    exact ⟨load_traps_misaligned powerWidth_b2 (addressed_scaled rfl),
      load_traps_misaligned powerWidth_b4 (addressed_scaled rfl),
      load_traps_misaligned powerWidth_b8 (addressed_scaled rfl),
      load_traps_misaligned powerWidth_b2 (addressed_scaled rfl),
      load_traps_misaligned powerWidth_b4 (addressed_scaled rfl),
      load_traps_misaligned powerWidth_b2 (addressed_scaled rfl),
      load_traps_misaligned powerWidth_b4 (addressed_scaled rfl),
      load_traps_misaligned powerWidth_b8 (addressed_scaled rfl),
      load_traps_misaligned powerWidth_b2 (addressed_scaled rfl),
      load_traps_misaligned powerWidth_b4 (addressed_scaled rfl),
      load_traps_misaligned powerWidth_b2 (addressed_scaled rfl),
      load_traps_misaligned powerWidth_b4 (addressed_scaled rfl),
      load_traps_misaligned powerWidth_b8 (addressed_scaled rfl),
      load_traps_misaligned powerWidth_b2 (addressed_scaled rfl),
      load_traps_misaligned powerWidth_b4 (addressed_scaled rfl),
      load_traps_misaligned powerWidth_b2 (addressed_scaled rfl),
      load_traps_misaligned powerWidth_b4 (addressed_scaled rfl),
      load_traps_misaligned powerWidth_b8 (addressed_scaled rfl),
      load_traps_misaligned powerWidth_b2 (addressed_scaled rfl),
      load_traps_misaligned powerWidth_b4 (addressed_scaled rfl),
      store_traps_misaligned powerWidth_b2 (addressed_scaled rfl),
      store_traps_misaligned powerWidth_b4 (addressed_scaled rfl),
      store_traps_misaligned powerWidth_b8 (addressed_scaled rfl),
      store_traps_misaligned powerWidth_b2 (addressed_scaled rfl),
      store_traps_misaligned powerWidth_b4 (addressed_scaled rfl),
      store_traps_misaligned powerWidth_b8 (addressed_scaled rfl),
      store_traps_misaligned powerWidth_b2 (addressed_scaled rfl),
      store_traps_misaligned powerWidth_b4 (addressed_scaled rfl),
      store_traps_misaligned powerWidth_b8 (addressed_scaled rfl),
      store_traps_misaligned powerWidth_b2 (addressed_scaled rfl),
      store_traps_misaligned powerWidth_b4 (addressed_scaled rfl),
      store_traps_misaligned powerWidth_b8 (addressed_scaled rfl)⟩

/-- Settles O29: an aligned store passes the access checks, so the page is what it fails on (R58, R62). -/
theorem fullPageCapacityTrapsStores : Obligations.FullPageCapacityTrapsStores := by
  refine ⟨fun d y z s => ?disp, fun x y z s => ?scaled⟩
  case disp =>
    exact ⟨store_traps_full powerWidth_b1 (addressed_disp rfl), store_traps_full powerWidth_b2 (addressed_disp rfl),
      store_traps_full powerWidth_b4 (addressed_disp rfl), store_traps_full powerWidth_b8 (addressed_disp rfl)⟩
  case scaled =>
    exact ⟨store_traps_full powerWidth_b1 (addressed_scaled rfl), store_traps_full powerWidth_b2 (addressed_scaled rfl),
      store_traps_full powerWidth_b4 (addressed_scaled rfl), store_traps_full powerWidth_b8 (addressed_scaled rfl),
      store_traps_full powerWidth_b1 (addressed_scaled rfl), store_traps_full powerWidth_b2 (addressed_scaled rfl),
      store_traps_full powerWidth_b4 (addressed_scaled rfl), store_traps_full powerWidth_b8 (addressed_scaled rfl),
      store_traps_full powerWidth_b1 (addressed_scaled rfl), store_traps_full powerWidth_b2 (addressed_scaled rfl),
      store_traps_full powerWidth_b4 (addressed_scaled rfl), store_traps_full powerWidth_b8 (addressed_scaled rfl),
      store_traps_full powerWidth_b1 (addressed_scaled rfl), store_traps_full powerWidth_b2 (addressed_scaled rfl),
      store_traps_full powerWidth_b4 (addressed_scaled rfl), store_traps_full powerWidth_b8 (addressed_scaled rfl)⟩

/-! ### The scaled index (R182) -/

/-- Settles O27: a multiplication by 2^k is a shift by k, and LITERAL_SHIFT's count 64 for scale 8 is 0. -/
theorem scaledIndexByScaleRule : Obligations.ScaledIndexByScaleRule := by
  have hshift (i : Word) (k : Nat) : (i <<< k).toNat = i.toNat * 2 ^ k % 2 ^ 64 := by
    rw [BitVec.toNat_shiftLeft, Nat.shiftLeft_eq]
  refine ⟨fun i k _ => ?stride, fun i => ⟨hshift i 8, hshift i 16, hshift i 32, BitVec.shiftLeft_zero i⟩,
    fun s x y k => BitVec.toNat_add _ _⟩
  case stride =>
    have heq : scaledIndex .stride i (2 ^ k) = i <<< k := by
      apply BitVec.eq_of_toNat_eq
      rw [hshift, scaledIndex, BitVec.toNat_mul, BitVec.toNat_ofNat, Nat.mul_mod_mod]
    exact ⟨heq ▸ hshift i k, heq⟩

end Sys2Proof.Laws.MemoryInstructions
end

section
/-!
PROOF. A store is what the next fetch takes where it covers the next word (R72, R338). The store's step ends with the store's
memory and pc at the next word; the next fetch reads that memory; and where the store covers the word, its four bytes are
digits of the register stored.
-/

namespace Sys2Proof.Laws.StoreFetch

open Sys2Proof Sys2Proof.Machine Sys2Proof.Claims Sys2Proof.Laws.Outcomes Sys2Proof.Laws.Steps
open Sys2Proof.Laws.MemoryWrite Sys2Proof.Laws.MemoryRead Sys2Proof.Laws.MemoryInstructions

/-! ### The word of four digits -/

/-- The word at an address is the number of its four bytes (R52). -/
theorem toNat_wordAt (m : Memory) (a : Nat) : (wordAt m a).toNat = bigEndian m a 4 := by
  have happend {w : Nat} (x : BitVec w) (b : Byte) : (x ++ b).toNat = x.toNat * 256 + b.toNat := by
    rw [BitVec.toNat_append, ← Nat.shiftLeft_add_eq_or_of_lt b.isLt, Nat.shiftLeft_eq]
  simp only [wordAt, wordOfBytes, happend, bigEndian, Nat.zero_mul, Nat.zero_add, Nat.add_zero]

/-- Four bytes that are the low digits of `v` are the word of its low 32 bits. -/
theorem wordAt_of_digits {m : Memory} {a v : Nat}
    (h : ∀ i, i < 4 → m.byte (a + i) = BitVec.ofNat 8 (v / 2 ^ (8 * (4 - 1 - i)))) : wordAt m a = BitVec.ofNat 32 v :=
  BitVec.eq_of_toNat_eq ((toNat_wordAt m a).trans ((bigEndian_of_digits h).trans (BitVec.toNat_ofNat v 32).symm))

/-- The bytes of memory after `n` bytes from `e` on have taken the digits of `v`. -/
def StoredBytes (m m' : Memory) (e n v : Nat) : Prop :=
  ∀ b, m'.byte b = if e ≤ b ∧ b < e + n then BitVec.ofNat 8 (v / 2 ^ (8 * (e + n - 1 - b))) else m.byte b

/-- A word inside the stored bytes, `r` bytes before their end: the digits of the value above its low `r` bytes. -/
theorem wordAt_of_storedBytes {m m' : Memory} {e n v a : Nat} (h : StoredBytes m m' e n v) (r : Nat) (hlo : e ≤ a)
    (hhi : a + 4 + r = e + n) : wordAt m' a = BitVec.ofNat 32 (v / 2 ^ (8 * r)) := by
  refine wordAt_of_digits fun i hi => ?_
  rw [h, if_pos ⟨by omega, by omega⟩, Nat.div_div_eq_div_mul, ← Nat.pow_add]
  congr 3
  omega

/-! ### The step of a store -/

theorem aligned_add_four {a : Word} (h : a.toNat % 4 = 0) : (a + 4#64).toNat % 4 = 0 := by
  rw [BitVec.toNat_add, show (4#64).toNat = 4 from rfl]
  omega

/-- The next fetch takes the word at pc of the memory there is (R111). -/
theorem storeSeenByFetch {i : Instr} {s : State} {n : Width} {z : RegIdx} {ea ea' : Word} {reads : List TraceEvent}
    (hn : PowerWidth n) (h : AddressedBy i (fetched s) (storeAt n z) ea' reads) (hea : ea' = ea) :
    StoreSeenByFetch i s n ea z := by
  subst hea
  intro hf hrun hj hwf hal hroom
  obtain ⟨u, hu, hin, hout, -, -, -, hcontrol, -, -⟩ := stores_of_addressed hn h hwf hal hroom
  have hstatus : u.status = .running := hcontrol.status.trans hrun
  have hpc : u.endStep.pc = s.pc + 4#64 := by
    rw [endStep_pc_running hstatus, hcontrol.jumped, hcontrol.pc]
    exact if_neg (by rw [show (fetched s).jumped = false from hj]; decide)
  have hbytes : StoredBytes s.mem u.endStep.mem ea'.toNat (widthBytes n) (s.reg z).toNat := by
    intro b
    rw [endStep_mem]
    split
    case isTrue hb =>
      have hk := hin (b - ea'.toNat) (by omega)
      rw [Nat.add_sub_cancel' hb.1, show widthBytes n - 1 - (b - ea'.toNat) = ea'.toNat + widthBytes n - 1 - b by omega] at hk
      exact hk
    case isFalse hb => exact hout b (by omega)
  refine ⟨u.endStep, step_of_fetches hf hu, (endStep_status u).trans hstatus, hpc, (endStep_ir u).trans hcontrol.ir, hbytes,
    IllegalOpcode.fetch_aligned (hpc ▸ aligned_add_four hf.2.1), ?st4, ?st8, ?own⟩
  case st4 =>
    rintro rfl rfl
    rw [hpc]
    simpa using wordAt_of_storedBytes hbytes 0 (Nat.le_refl _) rfl
  case st8 =>
    rintro rfl rfl
    rw [hpc]
    exact wordAt_of_storedBytes hbytes 4 (Nat.le_refl _) rfl
  case own =>
    rintro rfl rfl
    have hnext : (s.pc + 4#64).toNat = s.pc.toNat + 4 := by
      have hlt := s.pc.isLt
      have hmul : s.pc.toNat % 8 = 0 := hal
      rw [BitVec.toNat_add, show (4#64).toNat = 4 from rfl]
      omega
    rw [hpc, hnext]
    simpa using wordAt_of_storedBytes hbytes 0 (Nat.le_add_right _ 4) rfl

/-- Settles O55: each kind is its store at the address its mode gives, which the fetch before it does not change. -/
theorem storeIsSeenByNextFetch : Obligations.StoreIsSeenByNextFetch := by
  refine ⟨fun d y z s => ?disp, fun x y z s => ?scaled⟩
  case disp =>
    exact ⟨storeSeenByFetch powerWidth_b1 (addressed_disp rfl) rfl, storeSeenByFetch powerWidth_b2 (addressed_disp rfl) rfl,
      storeSeenByFetch powerWidth_b4 (addressed_disp rfl) rfl, storeSeenByFetch powerWidth_b8 (addressed_disp rfl) rfl⟩
  case scaled =>
    exact ⟨storeSeenByFetch powerWidth_b1 (addressed_scaled rfl) rfl, storeSeenByFetch powerWidth_b2 (addressed_scaled rfl) rfl,
      storeSeenByFetch powerWidth_b4 (addressed_scaled rfl) rfl, storeSeenByFetch powerWidth_b8 (addressed_scaled rfl) rfl,
      storeSeenByFetch powerWidth_b1 (addressed_scaled rfl) rfl, storeSeenByFetch powerWidth_b2 (addressed_scaled rfl) rfl,
      storeSeenByFetch powerWidth_b4 (addressed_scaled rfl) rfl, storeSeenByFetch powerWidth_b8 (addressed_scaled rfl) rfl,
      storeSeenByFetch powerWidth_b1 (addressed_scaled rfl) rfl, storeSeenByFetch powerWidth_b2 (addressed_scaled rfl) rfl,
      storeSeenByFetch powerWidth_b4 (addressed_scaled rfl) rfl, storeSeenByFetch powerWidth_b8 (addressed_scaled rfl) rfl,
      storeSeenByFetch powerWidth_b1 (addressed_scaled rfl) rfl, storeSeenByFetch powerWidth_b2 (addressed_scaled rfl) rfl,
      storeSeenByFetch powerWidth_b4 (addressed_scaled rfl) rfl, storeSeenByFetch powerWidth_b8 (addressed_scaled rfl) rfl⟩

end Sys2Proof.Laws.StoreFetch
end

section
/-!
PROOF. The shifts, in both shift modes (R133 to R140): the model's bit shifts as multiplication and division by 2^cnt, with
counts of 64 or more among them, and the one write of a register that ends each instruction.
-/

namespace Sys2Proof.Laws.Shifts

open Sys2Proof Sys2Proof.Machine Sys2Proof.Claims Sys2Proof.Laws.RegisterForms

/-! ### Values (R133) -/

theorem shiftCount_eq_shiftAmount (mode : ShiftMode) (a : Word) : shiftCount mode a = shiftAmount mode a := by
  cases mode <;> rfl

/-- A shift-left is a multiplication modulo 2^64; a count of 64 or more leaves 0. -/
theorem shiftLeft_eq_ofNat (mode : ShiftMode) (v a : Word) :
    shiftLeft mode v a = BitVec.ofNat 64 (v.toNat * 2 ^ shiftAmount mode a) := by
  rw [shiftLeft, shiftCount_eq_shiftAmount]
  split
  case isTrue =>
    apply BitVec.eq_of_toNat_eq
    rw [BitVec.toNat_shiftLeft, Nat.shiftLeft_eq, BitVec.toNat_ofNat]
  case isFalse h =>
    have hdvd : 2 ^ 64 ∣ v.toNat * 2 ^ shiftAmount mode a :=
      Dvd.dvd.mul_left (Nat.pow_dvd_pow 2 (Nat.le_of_not_lt h)) v.toNat
    apply BitVec.eq_of_toNat_eq
    rw [BitVec.toNat_ofNat, Nat.mod_eq_zero_of_dvd hdvd]
    rfl

/-- A logical right shift is a division; a count of 64 or more leaves 0. -/
theorem shiftRightLogical_eq_shrValue (mode : ShiftMode) (v a : Word) : shiftRightLogical mode v a = shrValue mode a v := by
  rw [shiftRightLogical, shrValue, shiftCount_eq_shiftAmount]
  split
  case isTrue =>
    apply BitVec.eq_of_toNat_eq
    rw [BitVec.toNat_ushiftRight, Nat.shiftRight_eq_div_pow, BitVec.toNat_ofNat,
      Nat.mod_eq_of_lt (Nat.lt_of_le_of_lt (Nat.div_le_self _ _) v.isLt)]
  case isFalse h =>
    rw [Nat.div_eq_of_lt (Nat.lt_of_lt_of_le v.isLt (Nat.pow_le_pow_right (by decide) (Nat.le_of_not_lt h)))]
    rfl

/-- A signed value divided by 2^64 or more and rounded down is its sign. -/
theorem toInt_div_pow_of_le (v : Word) {k : Nat} (hk : 64 ≤ k) : v.toInt / (2 : Int) ^ k = if v.msb then -1 else 0 := by
  have hpow : (2 : Int) ^ 64 ≤ 2 ^ k := pow_le_pow_right₀ (by decide) hk
  have hlo := BitVec.le_toInt v
  have hhi := BitVec.toInt_lt (x := v)
  rw [BitVec.msb_eq_toInt]
  split
  case isTrue hneg =>
    have hneg : v.toInt < 0 := of_decide_eq_true hneg
    have hpos : (0 : Int) < 2 ^ k := by omega
    have hle : -1 ≤ v.toInt / 2 ^ k := (Int.le_ediv_iff_mul_le hpos).mpr (by omega)
    have hlt : v.toInt / 2 ^ k < 0 := Int.ediv_neg_of_neg_of_pos hneg hpos
    omega
  case isFalse hpos =>
    have hpos : ¬ v.toInt < 0 := fun h => hpos (decide_eq_true h)
    exact Int.ediv_eq_zero_of_lt (by omega) (by omega)

/-- An arithmetic right shift is a division rounded down; a count of 64 or more leaves 64 copies of the sign. -/
theorem shiftRightArith_eq_sarValue (mode : ShiftMode) (v a : Word) : shiftRightArith mode v a = sarValue mode a v := by
  rw [shiftRightArith, sarValue, shiftCount_eq_shiftAmount]
  split
  case isTrue =>
    have hdiv : (v.sshiftRight (shiftAmount mode a)).toInt = v.toInt / (2 : Int) ^ shiftAmount mode a := by
      rw [BitVec.toInt_sshiftRight, Int.shiftRight_eq_div_pow, Nat.cast_pow, Nat.cast_ofNat]
    rw [← hdiv, BitVec.ofInt_toInt]
  case isFalse h =>
    rw [toInt_div_pow_of_le v (Nat.le_of_not_lt h)]
    cases v.msb <;> rfl

/-! ### The carry of a shift-left (R133, R134) -/

theorem shlFlags_eq (mode : ShiftMode) (v a : Word) (f : Flags) :
    shlFlags mode v a f = { f with cf := carryAfterShift mode a v f.cf } := by
  cases mode with
  | masked6 =>
    have hbit : (((64 : Int) - a.toNat) % 64).toNat = (64 - a.toNat % 64) % 64 := by omega
    simp only [shlFlags, shlWritesCarry, shlCarryBit, carryAfterShift, decide_eq_true_eq, hbit]
    split <;> rfl
  | mathematical =>
    simp only [shlFlags, shlWritesCarry, shlCarryBit, carryAfterShift, decide_eq_true_eq]
    by_cases hzero : a.toNat = 0
    · simp [hzero]
    · rw [if_neg hzero, if_neg hzero]
      split <;> rfl

/-- For amounts 1 to 63 both modes count the amount and carry the last bit shifted out. -/
theorem shiftAmount_carry_of_small (mode : ShiftMode) (a v : Word) (old : Bool) (hlo : 1 ≤ a.toNat) (hhi : a.toNat ≤ 63) :
    shiftAmount mode a = a.toNat ∧ carryAfterShift mode a v old = v.getLsbD (64 - a.toNat) := by
  cases mode with
  | masked6 =>
    have hsmall : a.toInt < 64 := by
      rw [BitVec.toInt_eq_toNat_of_lt (by omega)]
      omega
    refine ⟨Nat.mod_eq_of_lt (by omega), ?_⟩
    rw [carryAfterShift, if_pos hsmall, Nat.mod_eq_of_lt (by omega : a.toNat < 64), Nat.mod_eq_of_lt (by omega)]
  | mathematical =>
    exact ⟨rfl, (if_neg (by omega)).trans (if_pos (by omega))⟩

/-! ### The instructions -/

/-- The shift-left after some reads: its value, its carry and its event. -/
theorem shiftLeftInto_completes (a v : Word) (z : RegIdx) (s : State) (reads : List TraceEvent) :
    ∃ t, shiftLeftInto a v z (withEvents s reads) = .next t ∧ ShlEffect a v z s t
      ∧ s.Traced t (reads ++ [TraceEvent.regWrite z (BitVec.ofNat 64 (v.toNat * 2 ^ shiftAmount s.cfg.shiftMode a))]) := by
  obtain ⟨hreg, hflags, hrest, htrace⟩ := effect_setFlags_writeReg s reads (shlFlags s.cfg.shiftMode v a s.flags) z
    (shiftLeft s.cfg.shiftMode v a)
  refine ⟨_, rfl, ⟨?_, hflags.trans (shlFlags_eq _ _ _ _), hrest⟩, ?_⟩
  · rw [← shiftLeft_eq_ofNat]
    exact hreg
  · rw [← shiftLeft_eq_ofNat]
    exact htrace

/-- A meaning that ends in a write of one register after some reads completes with that effect. -/
theorem completes_writeReg {r : Result} {s : State} (reads : List TraceEvent) {z : RegIdx} {v w : Word}
    (h : r = .next ((withEvents s reads).writeReg z w)) (hv : w = v) :
    ∃ t, r = .next t ∧ WritesNoFlag v z s t ∧ s.Traced t (reads ++ [TraceEvent.regWrite z v]) :=
  ⟨_, hv ▸ h, effect_writeReg s reads z v⟩

/-- Settles O14: both forms are the one shift-left after their reads. -/
theorem shiftLeftResultAndCarry : Obligations.ShiftLeftResultAndCarry :=
  ⟨encodes_rrr (k := .shlRR) (by decide) fun _ => rfl, encodes_irr (k := .shlIR) (by decide) fun _ => rfl,
    fun x y z s => shiftLeftInto_completes (s.reg x) (s.reg y) z s [.regRead x (s.reg x), .regRead y (s.reg y)],
    fun u y z s => shiftLeftInto_completes u (s.reg y) z s [.regRead y (s.reg y)], shiftAmount_carry_of_small⟩

/-- Settles O15: each form writes its shifted value after its reads. -/
theorem shiftRightResults : Obligations.ShiftRightResults :=
  ⟨encodes_rrr (k := .shrRR) (by decide) fun _ => rfl, encodes_irr (k := .shrIR) (by decide) fun _ => rfl,
    encodes_rrr (k := .sarRR) (by decide) fun _ => rfl, encodes_irr (k := .sarIR) (by decide) fun _ => rfl,
    fun x y _ s => completes_writeReg [.regRead x (s.reg x), .regRead y (s.reg y)] rfl
      (shiftRightLogical_eq_shrValue s.cfg.shiftMode (s.reg y) (s.reg x)),
    fun u y _ s => completes_writeReg [.regRead y (s.reg y)] rfl
      (shiftRightLogical_eq_shrValue s.cfg.shiftMode (s.reg y) u),
    fun x y _ s => completes_writeReg [.regRead x (s.reg x), .regRead y (s.reg y)] rfl
      (shiftRightArith_eq_sarValue s.cfg.shiftMode (s.reg y) (s.reg x)),
    fun u y _ s => completes_writeReg [.regRead y (s.reg y)] rfl
      (shiftRightArith_eq_sarValue s.cfg.shiftMode (s.reg y) u)⟩

end Sys2Proof.Laws.Shifts
end

section
/-!
PROOF. Add, subtract and multiply (R150 to R156): each flag as a fact about the operands' numbers. A signed sum or difference
of words leaves the 64-bit range by at most one turn, so its word is the exact result, or that result one turn away.
-/

namespace Sys2Proof.Laws.Arithmetic

open Sys2Proof Sys2Proof.Machine Sys2Proof.Claims Sys2Proof.Laws.RegisterForms

/-! ### Words as numbers -/

/-- The word of an exact sum (R8). -/
theorem add_eq_ofNat (a b : Word) : a + b = BitVec.ofNat 64 (a.toNat + b.toNat) := by
  rw [BitVec.ofNat_add, BitVec.ofNat_toNat, BitVec.ofNat_toNat, BitVec.setWidth_eq, BitVec.setWidth_eq]

/-- The word of an exact signed difference (R8). -/
theorem sub_eq_ofInt (a b : Word) : b - a = BitVec.ofInt 64 (b.toInt - a.toInt) := by
  apply BitVec.eq_of_toInt_eq
  rw [BitVec.toInt_sub, BitVec.toInt_ofInt]

/-- The signed and the unsigned product have the same low word (R155). -/
theorem ofInt_signedProduct (a b : Word) : BitVec.ofInt 64 (signedProduct a b) = BitVec.ofNat 64 (a.toNat * b.toNat) := by
  rw [signedProduct, BitVec.ofInt_mul, BitVec.ofInt_toInt, BitVec.ofInt_toInt, BitVec.ofNat_mul, BitVec.ofNat_toNat,
    BitVec.ofNat_toNat, BitVec.setWidth_eq, BitVec.setWidth_eq]

/-- The bounds of a word's signed value. -/
theorem toInt_bounds (a : Word) : -(2 ^ 63 : Int) ≤ a.toInt ∧ a.toInt < 2 ^ 63 := ⟨BitVec.le_toInt a, BitVec.toInt_lt⟩

/-- A signed number within one turn of the range, as a word and back: the turn taken off or added. -/
theorem bmod_cases (p : Int) (hlo : -(2 ^ 64 : Int) ≤ p) (hhi : p < 2 ^ 64) :
    (-(2 ^ 63 : Int) ≤ p ∧ p < 2 ^ 63 ∧ p.bmod (2 ^ 64) = p) ∨ (2 ^ 63 ≤ p ∧ p.bmod (2 ^ 64) = p - 2 ^ 64)
      ∨ (p < -(2 ^ 63 : Int) ∧ p.bmod (2 ^ 64) = p + 2 ^ 64) := by
  rw [Int.bmod_def]
  split <;> omega

theorem isZero_iff (v : Word) : isZero v = true ↔ v = 0 := beq_iff_eq

/-! ### The flags of an addition (R150) -/

theorem addFlags_zf (a b : Word) : (addFlags a b (a + b)).zf = true ↔ (a.toNat + b.toNat) % 2 ^ 64 = 0 := by
  rw [addFlags, isZero_iff, ← BitVec.toNat_inj, BitVec.toNat_add]
  rfl

/-- The sum is below an operand exactly where it has wrapped. -/
theorem addFlags_cf (a b : Word) : (addFlags a b (a + b)).cf = true ↔ 2 ^ 64 ≤ a.toNat + b.toNat := by
  have ha := a.isLt
  have hb := b.isLt
  simp only [addFlags, Bool.or_eq_true, BitVec.ult_iff_lt, BitVec.lt_def, BitVec.toNat_add]
  omega

/-- Operands of one sign with a sum of the other: exactly where the exact sum leaves the signed range. -/
theorem addFlags_of (a b : Word) : (addFlags a b (a + b)).of = true
    ↔ (a.toInt + b.toInt < -(2 ^ 63 : Int) ∨ (2 ^ 63 : Int) ≤ a.toInt + b.toInt) := by
  have ha := toInt_bounds a
  have hb := toInt_bounds b
  have hsum := bmod_cases (a.toInt + b.toInt) (by omega) (by omega)
  simp only [addFlags, BitVec.msb_eq_toInt, BitVec.toInt_add, Bool.and_eq_true, beq_iff_eq, bne_iff_ne, ne_eq,
    decide_eq_decide]
  omega

theorem sf_iff (v : Word) : v.msb = true ↔ v.toInt < 0 := by rw [BitVec.msb_eq_toInt, decide_eq_true_eq]

/-! ### The flags of a subtraction (R152) -/

theorem subFlags_zf (a b : Word) : (subFlags a b (b - a)).zf = true ↔ a = b := by
  rw [subFlags, isZero_iff]
  exact sub_eq_zero.trans eq_comm

/-- The difference is above the first operand exactly where it has borrowed. -/
theorem subFlags_cf (a b : Word) : (subFlags a b (b - a)).cf = true ↔ b.toNat < a.toNat := by
  have ha := a.isLt
  have hb := b.isLt
  simp only [subFlags, BitVec.ult_iff_lt, BitVec.lt_def, BitVec.toNat_sub]
  omega

/-- Operands of two signs with a difference of the subtrahend's: exactly where the exact difference leaves the range. -/
theorem subFlags_of (a b : Word) : (subFlags a b (b - a)).of = true
    ↔ (b.toInt - a.toInt < -(2 ^ 63 : Int) ∨ (2 ^ 63 : Int) ≤ b.toInt - a.toInt) := by
  have ha := toInt_bounds a
  have hb := toInt_bounds b
  have hdiff := bmod_cases (b.toInt - a.toInt) (by omega) (by omega)
  simp only [subFlags, BitVec.toInt_sub, Bool.or_eq_true, Bool.and_eq_true, decide_eq_true_eq]
  omega

/-- The sign of the word `b - a` and its overflow together tell the order of the signed operands (R265). -/
theorem sf_eq_of_iff_le {a b : Word} {f : Flags} (hof : f.of = true
      ↔ (b.toInt - a.toInt < -(2 ^ 63 : Int) ∨ (2 ^ 63 : Int) ≤ b.toInt - a.toInt))
    (hsf : f.sf = true ↔ (BitVec.ofInt 64 (b.toInt - a.toInt)).toInt < 0) : f.sf = f.of ↔ a.toInt ≤ b.toInt := by
  have ha := toInt_bounds a
  have hb := toInt_bounds b
  have hdiff := bmod_cases (b.toInt - a.toInt) (by omega) (by omega)
  rw [BitVec.toInt_ofInt] at hsf
  rw [Bool.eq_iff_iff, hsf, hof]
  omega

/-! ### The flags of a multiplication (R154) -/

theorem mulOverflow_iff (mode : MulOvfMode) (p : Int) : mulOverflow mode p = true ↔ ProductOverflows mode p := by
  cases mode with
  | highNonzero =>
    simp only [mulOverflow, ProductOverflows, bne_iff_ne, ne_eq]
    omega
  | signedFit =>
    simp only [mulOverflow, ProductOverflows, Bool.or_eq_true, decide_eq_true_eq]
    omega

/-- SET_ONLY sets CF and OF on overflow and never clears them. -/
theorem mulFlags_setOnly (ovf : Bool) (f : Flags) :
    mulFlags .setOnly ovf f = { f with cf := ovf || f.cf, of := ovf || f.of } := by
  cases ovf <;> rfl

/-! ### The instructions -/

section Completion

variable (a b : Word) (z : RegIdx) (s : State) (reads : List TraceEvent)

theorem addInto_completes : ∃ t, addInto a b z (withEvents s reads) = .next t ∧ AddEffect a b z s t
      ∧ s.Traced t (reads ++ [TraceEvent.regWrite z (BitVec.ofNat 64 (a.toNat + b.toNat))]) := by
  obtain ⟨hreg, hflags, hrest, htrace⟩ := effect_setFlags_writeReg s reads (addFlags a b (a + b)) z (a + b)
  refine ⟨((withEvents s reads).setFlags (addFlags a b (a + b))).writeReg z (a + b), rfl, ?_, add_eq_ofNat a b ▸ htrace⟩
  rw [AddEffect, hflags, ← add_eq_ofNat]
  exact ⟨hreg, addFlags_zf a b, addFlags_cf a b, addFlags_of a b, sf_iff _, hrest⟩

theorem subInto_completes : ∃ t, subInto a b z (withEvents s reads) = .next t ∧ SubEffect a b z s t
      ∧ s.Traced t (reads ++ [TraceEvent.regWrite z (BitVec.ofInt 64 (b.toInt - a.toInt))]) := by
  obtain ⟨hreg, hflags, hrest, htrace⟩ := effect_setFlags_writeReg s reads (subFlags a b (b - a)) z (b - a)
  refine ⟨((withEvents s reads).setFlags (subFlags a b (b - a))).writeReg z (b - a), rfl, ?_, sub_eq_ofInt a b ▸ htrace⟩
  rw [SubEffect, hflags, ← sub_eq_ofInt]
  exact ⟨hreg, subFlags_zf a b, subFlags_cf a b, subFlags_of a b, sf_iff _, hrest⟩

/-- The model writes the flags of a multiply after the register, which is the same as before it. -/
theorem writeReg_setFlags (u : State) (v : Word) (f : Flags) :
    (u.writeReg z v).setFlags f = (u.setFlags f).writeReg z v := by
  unfold State.writeReg State.setReg
  split <;> rfl

theorem mulInto_completes : ∃ t, mulInto a b z (withEvents s reads) = .next t ∧ MulEffect a b z s t
      ∧ s.Traced t (reads ++ [TraceEvent.regWrite z (BitVec.ofNat 64 (a.toNat * b.toNat))]) := by
  obtain ⟨hreg, hflags, hrest, htrace⟩ := effect_setFlags_writeReg s reads
    (mulFlags s.cfg.mulFlagMode (mulOverflow s.cfg.mulOvfMode (signedProduct a b)) s.flags) z
    (BitVec.ofNat 64 (a.toNat * b.toNat))
  obtain ⟨hzf, -, -, hsf⟩ := Outcomes.keepsFlags_mul s.cfg.mulFlagMode (mulOverflow s.cfg.mulOvfMode (signedProduct a b)) s.flags
  have hovf : mulOverflow s.cfg.mulOvfMode (signedProduct a b) = true
      ↔ ProductOverflows s.cfg.mulOvfMode (a.toInt * b.toInt) := mulOverflow_iff _ _
  refine ⟨_, ?exec, ⟨hreg, ?overflow, ?zf, ?sf, hrest⟩, htrace⟩
  case exec =>
    rw [mulInto, writeReg_setFlags, ofInt_signedProduct]
    rfl
  case overflow =>
    rw [hflags]
    generalize s.cfg.mulFlagMode = mode
    cases mode with
    | setOnly => simp only [mulFlags_setOnly, Bool.or_eq_true, hovf, and_self]
    | assign => exact ⟨hovf, hovf⟩
  case zf => rw [hflags, hzf rfl]
  case sf => rw [hflags, hsf rfl]

end Completion

/-- Settles O16: both forms are the one addition after their reads. -/
theorem addResultAndFlags : Obligations.AddResultAndFlags :=
  ⟨encodes_rrr (k := .addRR) (by decide) fun _ => rfl, encodes_irr (k := .addIR) (by decide) fun _ => rfl,
    fun x y z s => addInto_completes (s.reg x) (s.reg y) z s [.regRead x (s.reg x), .regRead y (s.reg y)],
    fun u y z s => addInto_completes u (s.reg y) z s [.regRead y (s.reg y)]⟩

/-- Settles O17: both forms are the one subtraction after their reads. -/
theorem subtractResultAndFlags : Obligations.SubtractResultAndFlags :=
  ⟨encodes_rrr (k := .subRR) (by decide) fun _ => rfl, encodes_irr (k := .subIR) (by decide) fun _ => rfl,
    fun x y z s => subInto_completes (s.reg x) (s.reg y) z s [.regRead x (s.reg x), .regRead y (s.reg y)],
    fun u y z s => subInto_completes u (s.reg y) z s [.regRead y (s.reg y)]⟩

/-- Settles O18: both forms are the one multiplication after their reads. -/
theorem multiplyResultAndOverflow : Obligations.MultiplyResultAndOverflow :=
  ⟨encodes_rrr (k := .mulRR) (by decide) fun _ => rfl, encodes_rsr (k := .mulRI) (by decide) fun _ => rfl,
    fun x y z s => mulInto_completes (s.reg x) (s.reg y) z s [.regRead x (s.reg x), .regRead y (s.reg y)],
    fun x v z s => mulInto_completes (s.reg x) v z s [.regRead x (s.reg x)]⟩

end Sys2Proof.Laws.Arithmetic
end

section
/-!
PROOF. The divides (R157 to R162): the index check, then the divisor check, then two or three register writes, whose
destinations are distinct and none of which but the first can be x[0] once the indices are in range.
-/

namespace Sys2Proof.Laws.Divides

open Sys2Proof Sys2Proof.Machine Sys2Proof.Claims Sys2Proof.Laws.RegisterForms Sys2Proof.Laws.RegisterEffects

/-! ### Consecutive registers (R157, R160) -/

theorem toNat_add_one {q : RegIdx} (h : q.toNat ≤ 254) : (q + 1).toNat = q.toNat + 1 := by
  rw [BitVec.toNat_add, show BitVec.toNat (1 : RegIdx) = 1 from rfl]
  omega

theorem toNat_add_two {q : RegIdx} (h : q.toNat ≤ 253) : (q + 2).toNat = q.toNat + 2 := by
  rw [BitVec.toNat_add, show BitVec.toNat (2 : RegIdx) = 2 from rfl]
  omega

theorem ne_of_toNat_ne {x y : RegIdx} (h : x.toNat ≠ y.toNat) : x ≠ y := fun heq => h (congrArg BitVec.toNat heq)

theorem ne_zero_of_toNat {x : RegIdx} {n : Nat} (h : x.toNat = n + 1) : x ≠ 0 :=
  ne_of_toNat_ne (h ▸ Nat.succ_ne_zero n)

/-- A write to the register after `q` is a write: it is not x[0]. -/
theorem writesReg_ne_zero {s t : State} {i : RegIdx} {v : Word} (h : s.WritesReg t i v) (hi : i ≠ 0) : t.reg i = v :=
  h.written.trans (if_neg hi)

theorem sameButRegsFlags_withEvents (s : State) (events : List TraceEvent) :
    s.SameButRegsFlags (withEvents s events) := ⟨⟨⟨rfl, rfl, rfl, rfl, rfl⟩, rfl, rfl⟩, ⟨fun _ => rfl, rfl⟩, rfl⟩

/-! ### The divides that complete -/

/-- `DivU` with its indices in range and a nonzero divisor (R157). -/
theorem divU_eq {d : Word} {r q : RegIdx} (hr : r.toNat ≤ 254) (hq : q.toNat ≤ 253) (hd : d ≠ 0) (s : State)
    (reads : List TraceEvent) :
    divU d r q (withEvents s reads)
      = .next ((((withEvents s (reads ++ [.regRead r (s.reg r), .regRead (r + 1) (s.reg (r + 1))])).writeReg q
          (BitVec.ofNat 64 (dividend (s.reg r) (s.reg (r + 1)) / d.toNat))).writeReg (q + 1)
          (BitVec.ofNat 64 (dividend (s.reg r) (s.reg (r + 1)) / d.toNat / 2 ^ 64))).writeReg (q + 2)
          (BitVec.ofNat 64 (dividend (s.reg r) (s.reg (r + 1)) % d.toNat))) := by
  have hzero : d.toNat ≠ 0 := fun h => hd (BitVec.eq_of_toNat_eq h)
  have hmod : ∀ n : Nat, n - n / d.toNat * d.toNat = n % d.toNat := fun n => by
    rw [Nat.mod_eq_sub_div_mul]
  rw [divU, if_neg (by omega)]
  simp only [readReg_eq, withEvents_emit, if_neg hzero, hmod, List.append_assoc, List.singleton_append]
  rfl

/-- Three writes to consecutive registers, the first of which alone can be x[0]. -/
theorem divuEffect_of_writes (s : State) (reads : List TraceEvent) {q : RegIdx} (hq : q.toNat ≤ 253) (n d : Nat) :
    DivuEffect d n q s ((((withEvents s reads).writeReg q (BitVec.ofNat 64 (n / d))).writeReg (q + 1)
      (BitVec.ofNat 64 (n / d / 2 ^ 64))).writeReg (q + 2) (BitVec.ofNat 64 (n % d))) := by
  have h1 := toNat_add_one (q := q) (by omega)
  have h2 := toNat_add_two hq
  have low := writesReg_writeReg (withEvents s reads) q (BitVec.ofNat 64 (n / d))
  have high := writesReg_writeReg ((withEvents s reads).writeReg q (BitVec.ofNat 64 (n / d))) (q + 1)
    (BitVec.ofNat 64 (n / d / 2 ^ 64))
  have rest := writesReg_writeReg (((withEvents s reads).writeReg q (BitVec.ofNat 64 (n / d))).writeReg (q + 1)
    (BitVec.ofNat 64 (n / d / 2 ^ 64))) (q + 2) (BitVec.ofNat 64 (n % d))
  refine ⟨?low, ?high, ?rest, fun j hj0 hj1 hj2 => ?others, ?slot, ?flags, ?same⟩
  case low =>
    rw [rest.others q (ne_of_toNat_ne (by omega)), high.others q (ne_of_toNat_ne (by omega)), low.written]
  case high => rw [rest.others (q + 1) (ne_of_toNat_ne (by omega)), writesReg_ne_zero high (ne_zero_of_toNat h1)]
  case rest => exact writesReg_ne_zero rest (ne_zero_of_toNat h2)
  case others => exact (rest.others j hj2).trans ((high.others j hj1).trans (low.others j hj0))
  case slot => exact rest.slotZero.trans (high.slotZero.trans low.slotZero)
  case flags => rw [writeReg_flags, writeReg_flags, writeReg_flags]; rfl
  case same =>
    exact sameButRegsFlags_trans (sameButRegsFlags_trans (sameButRegsFlags_trans (sameButRegsFlags_withEvents s reads)
      (sameButRegsFlags_writeReg _ _ _)) (sameButRegsFlags_writeReg _ _ _)) (sameButRegsFlags_writeReg _ _ _)

theorem divU_completes {d : Word} {r q : RegIdx} (hr : r.toNat ≤ 254) (hq : q.toNat ≤ 253) (hd : d ≠ 0) (s : State)
    (reads : List TraceEvent) :
    ∃ t, divU d r q (withEvents s reads) = .next t ∧ DivuEffect d.toNat (dividend (s.reg r) (s.reg (r + 1))) q s t
      ∧ s.Traced t (reads ++ [TraceEvent.regRead r (s.reg r), .regRead (r + 1) (s.reg (r + 1)),
          .regWrite q (BitVec.ofNat 64 (dividend (s.reg r) (s.reg (r + 1)) / d.toNat)),
          .regWrite (q + 1) (BitVec.ofNat 64 (dividend (s.reg r) (s.reg (r + 1)) / d.toNat / 2 ^ 64)),
          .regWrite (q + 2) (BitVec.ofNat 64 (dividend (s.reg r) (s.reg (r + 1)) % d.toNat))]) := by
  refine ⟨_, divU_eq hr hq hd s reads, divuEffect_of_writes s _ hq _ _, ?_⟩
  simp only [State.Traced, writeReg_trace, withEvents, List.reverse_append]
  rfl

/-- The model's quotient of magnitudes with a sign is the quotient truncated toward zero (R160). -/
theorem signedQuotient_eq_tdiv {n d : Int} (hd : d ≠ 0) : signedQuotient n d = n.tdiv d := by
  unfold signedQuotient
  obtain ⟨a, rfl | rfl⟩ := n.eq_nat_or_neg <;> obtain ⟨b, rfl | rfl⟩ := d.eq_nat_or_neg
  all_goals
    have hb : (b : Int).sign = 1 := Int.sign_eq_one_of_pos (by omega)
    simp only [Int.natAbs_neg, Int.natAbs_natCast, Int.neg_tdiv, Int.tdiv_neg, neg_neg, ← Int.ofNat_tdiv, Int.sign_neg, hb]
    rcases a.eq_zero_or_pos with rfl | ha
    · simp
    · rw [Int.sign_eq_one_of_pos (by omega)]
      split <;> omega

/-- `DivS` with its index in range and a nonzero divisor (R160). -/
theorem divS_eq {d n : Word} {q : RegIdx} (hq : q.toNat ≤ 254) (hd : d ≠ 0) (s : State) :
    divS d n q s = .next ((s.writeReg q (BitVec.ofInt 64 (n.toInt.tdiv d.toInt))).writeReg (q + 1)
      (BitVec.ofInt 64 (n.toInt.tmod d.toInt))) := by
  have hzero : d.toInt ≠ 0 := fun h => hd (BitVec.eq_of_toInt_eq h)
  rw [divS, if_neg (by omega), if_neg hzero]
  simp only [signedQuotient_eq_tdiv hzero, Int.tmod_def]

/-- Two writes to consecutive registers, the first of which alone can be x[0]. -/
theorem idivEffect_of_writes (s : State) (reads : List TraceEvent) {q : RegIdx} (hq : q.toNat ≤ 254) (n d : Int) :
    IdivEffect d n q s (((withEvents s reads).writeReg q (BitVec.ofInt 64 (n.tdiv d))).writeReg (q + 1)
      (BitVec.ofInt 64 (n.tmod d))) := by
  have h1 := toNat_add_one hq
  have quot := writesReg_writeReg (withEvents s reads) q (BitVec.ofInt 64 (n.tdiv d))
  have rest := writesReg_writeReg ((withEvents s reads).writeReg q (BitVec.ofInt 64 (n.tdiv d))) (q + 1)
    (BitVec.ofInt 64 (n.tmod d))
  refine ⟨?quot, ?rest, fun j hj0 hj1 => ?others, ?slot, ?flags, ?same⟩
  case quot => rw [rest.others q (ne_of_toNat_ne (by omega)), quot.written]
  case rest => exact writesReg_ne_zero rest (ne_zero_of_toNat h1)
  case others => exact (rest.others j hj1).trans (quot.others j hj0)
  case slot => exact rest.slotZero.trans quot.slotZero
  case flags => rw [writeReg_flags, writeReg_flags]; rfl
  case same =>
    exact sameButRegsFlags_trans (sameButRegsFlags_trans (sameButRegsFlags_withEvents s reads)
      (sameButRegsFlags_writeReg _ _ _)) (sameButRegsFlags_writeReg _ _ _)

theorem divS_completes {d n : Word} {q : RegIdx} (hq : q.toNat ≤ 254) (hd : d ≠ 0) (s : State) (reads : List TraceEvent) :
    ∃ t, divS d n q (withEvents s reads) = .next t ∧ IdivEffect d.toInt n.toInt q s t
      ∧ s.Traced t (reads ++ [TraceEvent.regWrite q (BitVec.ofInt 64 (n.toInt.tdiv d.toInt)),
          .regWrite (q + 1) (BitVec.ofInt 64 (n.toInt.tmod d.toInt))]) := by
  refine ⟨_, divS_eq hq hd _, idivEffect_of_writes s reads hq _ _, ?_⟩
  simp only [State.Traced, writeReg_trace, withEvents, List.reverse_append]
  rfl

/-- Settles O19: both forms are the one `DivU` after their reads. -/
theorem unsignedWideDivideCompletes : Obligations.UnsignedWideDivideCompletes :=
  ⟨encodes_rrr (k := .divuRR) (by decide) fun _ => rfl, encodes_irr (k := .divuIR) (by decide) fun _ => rfl,
    fun x _ _ s hy hz hd => divU_completes hy hz hd s [.regRead x (s.reg x)],
    fun _ _ _ s hy hz hd => divU_completes hy hz hd s []⟩

/-- Settles O20: both forms are the one `DivS` after their reads. -/
theorem signedDivideCompletes : Obligations.SignedDivideCompletes :=
  ⟨encodes_rrr (k := .idivRR) (by decide) fun _ => rfl, encodes_srr (k := .idivIR) (by decide) fun _ => rfl,
    fun x y _ s hz hd => divS_completes hz hd s [.regRead x (s.reg x), .regRead y (s.reg y)],
    fun _ y _ s hz hd => divS_completes hz hd s [.regRead y (s.reg y)]⟩

/-! ### The divides that fault -/

theorem divU_index {d : Word} {r q : RegIdx} (h : r.toNat = 255 ∨ 254 ≤ q.toNat) (s : State) :
    divU d r q s = raise (.registerIndexOutOfRange [r, q]) s := if_pos (by omega)

/-- The zero check stands after the reads of the pair (R157). -/
theorem divU_zero {d : Word} {r q : RegIdx} (hr : r.toNat ≤ 254) (hq : q.toNat ≤ 253) (hd : d = 0) (s : State)
    (reads : List TraceEvent) :
    divU d r q (withEvents s reads) = raise (.arithmeticFault .divideByZero)
      (withEvents s (reads ++ [TraceEvent.regRead r (s.reg r), .regRead (r + 1) (s.reg (r + 1))])) := by
  have hzero : d.toNat = 0 := by rw [hd]; rfl
  rw [divU, if_neg (by omega)]
  simp only [readReg_eq, withEvents_emit, if_pos hzero, List.append_assoc, List.singleton_append]
  rfl

theorem divS_index {d n : Word} {q : RegIdx} (h : q.toNat = 255) (s : State) :
    divS d n q s = raise (.registerIndexOutOfRange [q]) s := if_pos (by omega)

theorem divS_zero {d n : Word} {q : RegIdx} (hq : q.toNat ≤ 254) (hd : d = 0) (s : State) :
    divS d n q s = raise (.arithmeticFault .divideByZero) s := by
  have hzero : d.toInt = 0 := by rw [hd]; rfl
  exact (if_neg (by omega)).trans (if_pos hzero)

/-- Settles O21: the index check stands before the zero check, and both before any write. -/
theorem dividesTrapBeforeAnyWrite : Obligations.DividesTrapBeforeAnyWrite :=
  ⟨fun x _ _ s h => traps_of_raise [.regRead x (s.reg x)] (divU_index h _),
    fun _ _ _ s h => traps_of_raise [] (divU_index h s),
    fun x _ _ s hy hz hd => traps_of_raise _ (divU_zero hy hz hd s [.regRead x (s.reg x)]),
    fun _ _ s hy hz => traps_of_raise _ (divU_zero hy hz rfl s []),
    fun x y _ s h => traps_of_raise [.regRead x (s.reg x), .regRead y (s.reg y)] (divS_index h _),
    fun _ y _ s h => traps_of_raise [.regRead y (s.reg y)] (divS_index h _),
    fun x y _ s hz hd => traps_of_raise [.regRead x (s.reg x), .regRead y (s.reg y)] (divS_zero hz hd _),
    fun y _ s hz => traps_of_raise [.regRead y (s.reg y)] (divS_zero hz rfl _)⟩

end Sys2Proof.Laws.Divides
end

section
/-!
PROOF. Control transfer (R250 to R265): the absolute jump, the relative jump, and when a jump is taken, so that after a
compare each jump orders the compared registers.
-/

namespace Sys2Proof.Laws.Jumps

open Sys2Proof Sys2Proof.Machine Sys2Proof.Claims Sys2Proof.Laws.RegisterForms Sys2Proof.Laws.RegisterEffects
open Sys2Proof.Laws.ConditionalJumps

/-! ### The absolute jump (R250) -/

/-- The target is read after the link is written, so it is the link where both are one register other than x[0]. -/
theorem reg_after_link (s : State) (x y : RegIdx) (v : Word) :
    (s.writeReg y v).reg x = if x = y ∧ y ≠ 0 then v else s.reg x := writeReg_reg s y x v

/-- Settles O30: the link is a register write of pc + 4, and the target is read from what that write leaves. -/
theorem absoluteJumpLinksThenJumps : Obligations.AbsoluteJumpLinksThenJumps := by
  refine ⟨fun x y z => encodes_rrr (k := .jmpAbs) (c := fun x y _ => .jmpAbs x y) (by decide) (fun _ => rfl) x y z,
    fun x y s => ?_⟩
  rw [← Steps.add_four_eq_ofNat, ← reg_after_link]
  have hwrite := writesReg_writeReg s y (s.pc + 4#64)
  have hsame := sameButRegsFlags_writeReg s y (s.pc + 4#64)
  refine ⟨_, rfl, writesReg_of_regs hwrite rfl rfl, rfl, rfl, writeReg_flags s y _, ?_, ?_, hsame.dev, ?_⟩
  · exact ⟨hsame.control.ir, hsame.control.status, hsame.control.exitCode, hsame.control.lastError, hsame.control.cfg⟩
  · exact ⟨hsame.memory.bytes, hsame.memory.pages⟩
  · exact congrArg (List.cons _) (writeReg_trace s y _)

/-! ### The relative jump (R251, R252) -/

/-- A multiple of 4 away from an aligned address is aligned, modulo 2^64 too. -/
theorem relativeTarget_aligned {pc v : Word} (h : pc.toNat % 4 = 0) : (relativeTarget pc v).toNat % 4 = 0 := by
  rw [relativeTarget, BitVec.toNat_add, BitVec.toNat_mul, show (4#64).toNat = 4 from rfl]
  omega

/-- Settles O31: JMP is the relative jump taken, and its offset is a sign-extended 24-bit field. -/
theorem relativeJumpMovesPc : Obligations.RelativeJumpMovesPc := by
  refine ⟨encodes_field (k := .jmp) (by decide), fun v s => completes_of_exec_eq rfl, fun v => ?range, fun v s t h hpc => ?aligned⟩
  case range =>
    have hv : (signExt v).toInt = v.toInt := BitVec.toInt_signExtend_of_le (by decide)
    have hlo := BitVec.le_toInt v
    have hhi := BitVec.toInt_lt (x := v)
    omega
  case aligned =>
    obtain rfl : s.jumpTo (relativeTarget s.pc v) = t := Host.Outcome.next.inj h
    exact relativeTarget_aligned hpc

/-! ### When a jump is taken (R264, R265) -/

/-- With jumped clear, an instruction that is the relative jump under a condition is taken exactly on that condition. -/
theorem taken_iff {i : Instr} {taken : Bool} {v : Word} {s : State} (h : exec i s = jumpRelativeIf taken v s)
    (hj : s.jumped = false) : Taken i s ↔ taken = true := by
  obtain ⟨t, ht, -, hset, -⟩ := completes_of_exec_eq h
  have hjumped : t.jumped = taken := by rw [hset, hj, Bool.or_false]
  constructor
  · rintro ⟨u, hu, hjump⟩
    rw [ht] at hu
    cases hu
    exact hjumped.symm.trans hjump
  · exact fun htaken => ⟨t, ht, hjumped.trans htaken⟩

/-- Of two jumps whose conditions are each other's negation exactly one is taken. -/
theorem taken_iff_not_taken {i j : Instr} {p q : Bool} {v : Word} {s : State} (hi : exec i s = jumpRelativeIf p v s)
    (hj : exec j s = jumpRelativeIf q v s) (hpq : p = !q) (hclear : s.jumped = false) : Taken i s ↔ ¬ Taken j s := by
  rw [taken_iff hi hclear, taken_iff hj hclear, hpq, Bool.not_eq_true', Bool.not_eq_true]

/-- Settles O33: the condition of one jump of each pair is the negation of the other's. -/
theorem complementaryJumpPairs : Obligations.ComplementaryJumpPairs := by
  intro v s hj
  have hge : (s.flags.sf == s.flags.of) = !(s.flags.sf != s.flags.of) := (Bool.not_not _).symm
  exact ⟨taken_iff_not_taken (exec_ja v s) (exec_jbe v s) (Bool.not_or _ _).symm hj,
    taken_iff_not_taken (exec_jae v s) (exec_jb v s) rfl hj,
    taken_iff_not_taken (exec_jg v s) (exec_jle v s) (by rw [Bool.not_or, hge]) hj,
    taken_iff_not_taken (exec_jge v s) (exec_jl v s) hge hj,
    taken_iff_not_taken (exec_jz v s) (exec_jnz v s) (Bool.not_not _).symm hj⟩

/-- Settles O34: the conditions read the flags of the difference, which O17 ties to the order of the operands. -/
theorem compareThenJumpOrdersOperands : Obligations.CompareThenJumpOrdersOperands := by
  intro a b z v s t hj h
  obtain ⟨u, hu, ⟨-, hzf, hcf, hof, hsf, hrest⟩, -⟩ := Arithmetic.subInto_completes (s.reg a) (s.reg b) z s
    [.regRead a (s.reg a), .regRead b (s.reg b)]
  obtain rfl : u = t := Host.Outcome.next.inj (hu.symm.trans h)
  have hj : u.jumped = false := hrest.control.jumped.trans hj
  have hle : u.flags.sf = u.flags.of ↔ (s.reg a).toInt ≤ (s.reg b).toInt := Arithmetic.sf_eq_of_iff_le hof hsf
  rw [taken_iff (exec_ja v u) hj, taken_iff (exec_jbe v u) hj, taken_iff (exec_jae v u) hj, taken_iff (exec_jb v u) hj,
    taken_iff (exec_jg v u) hj, taken_iff (exec_jle v u) hj, taken_iff (exec_jge v u) hj, taken_iff (exec_jl v u) hj,
    taken_iff (exec_jz v u) hj, taken_iff (exec_jnz v u) hj]
  simp only [Bool.and_eq_true, Bool.or_eq_true, Bool.not_eq_true', beq_iff_eq, bne_iff_ne, ne_eq, ← Bool.not_eq_true, hzf,
    hcf, hle]
  rcases eq_or_ne (s.reg a) (s.reg b) with heq | hne
  · simp [heq]
  · have hnat : (s.reg a).toNat ≠ (s.reg b).toNat := fun h => hne (BitVec.eq_of_toNat_eq h)
    have hint : (s.reg a).toInt ≠ (s.reg b).toInt := fun h => hne (BitVec.eq_of_toInt_eq h)
    simp only [hne, not_false_eq_true, and_true, true_and, false_or, or_false]
    omega

end Sys2Proof.Laws.Jumps
end

section
/-!
PROOF. Halts and character I/O (R270 to R276), and the retry of a blocked GETC (R119).
-/

namespace Sys2Proof.Laws.SystemIo

open Sys2Proof Sys2Proof.Machine Sys2Proof.Claims Sys2Proof.Laws.RegisterForms Sys2Proof.Laws.RegisterEffects
open Sys2Proof.Laws.Steps

/-! ### Halts and output -/

theorem haltEffect_haltWith (c : Word) (s : State) (events : List TraceEvent) :
    HaltEffect c s ((withEvents s events).haltWith c) :=
  ⟨rfl, rfl, rfl, rfl, rfl, rfl, rfl, rfl, rfl, ⟨fun _ => rfl, rfl⟩, rfl⟩

/-- Settles O35: both forms write the same fields, HALT_R after its read. -/
theorem haltWritesExitCode : Obligations.HaltWritesExitCode :=
  ⟨encodes_rrr (k := .haltR) (c := fun x _ _ => .haltR x) (by decide) fun _ => rfl,
    encodes_irr (k := .haltI) (c := fun u _ _ => .haltI u) (by decide) fun _ => rfl,
    fun x s => ⟨_, rfl, haltEffect_haltWith (s.reg x) s [.regRead x (s.reg x)], rfl⟩,
    fun u s => ⟨_, rfl, haltEffect_haltWith u s [], rfl⟩⟩

theorem putcEffect_putChar (c : Byte) (s : State) (events : List TraceEvent) :
    PutcEffect c s ((withEvents s events).putChar c) :=
  ⟨rfl, rfl, rfl, rfl, ⟨⟨rfl, rfl, rfl, rfl, rfl⟩, rfl, rfl⟩, ⟨fun _ => rfl, rfl⟩⟩

/-- The low 8 bits of a word as a number (R275). -/
theorem setWidth_eq_ofNat_mod (v : Word) : v.setWidth 8 = BitVec.ofNat 8 (v.toNat % 256) := by
  apply BitVec.eq_of_toNat_eq
  rw [BitVec.toNat_setWidth, BitVec.toNat_ofNat, Nat.mod_mod]

/-- Settles O38: both forms put out the low 8 bits, PUTC_R after its read. -/
theorem putcAppendsOneCharacter : Obligations.PutcAppendsOneCharacter := by
  refine ⟨encodes_rrr (k := .putcR) (c := fun x _ _ => .putcR x) (by decide) fun _ => rfl,
    encodes_irr (k := .putcI) (c := fun u _ _ => .putcI u) (by decide) fun _ => rfl, fun x s => ?reg, fun u s => ?byte,
    fun u s => ?word⟩
  case reg =>
    rw [← setWidth_eq_ofNat_mod]
    exact ⟨_, rfl, putcEffect_putChar _ s [.regRead x (s.reg x)], rfl⟩
  case byte =>
    have hbyte : (zeroExt u).setWidth 8 = u := EncodeDecode.imm8_zeroExt u
    exact ⟨s.putChar ((zeroExt u).setWidth 8), rfl, hbyte.symm ▸ putcEffect_putChar u s [], rfl⟩
  case word =>
    rw [← setWidth_eq_ofNat_mod]
    exact ⟨_, rfl, putcEffect_putChar _ s [], rfl⟩

/-! ### GETC (R274) -/

theorem exec_getc_input {x : RegIdx} {c : Byte} {rest : List Byte} {s : State} (h : s.dev.input = c :: rest) :
    exec (.getc x) s
      = .next (((s.setDev { s.dev with input := rest }).writeReg x (BitVec.ofNat 64 c.toNat)).setStatus .running) := by
  rcases execGetc_cases x s with ⟨hempty, -⟩ | ⟨c', rest', hinput, hexec⟩
  · rw [h] at hempty
    cases hempty
  · rw [h] at hinput
    cases hinput
    rw [BitVec.ofNat_toNat]
    exact hexec

theorem exec_getc_empty {x : RegIdx} {s : State} (h : s.dev.input = []) :
    exec (.getc x) s = .next (s.setStatus .blocked) := by
  rcases execGetc_cases x s with ⟨-, hexec⟩ | ⟨c, rest, hinput, -⟩
  · exact hexec
  · rw [h] at hinput
    cases hinput

/-- A GETC that is fetched with no input ends its step BLOCKED in the fetched state. -/
theorem step_getc_empty {x : RegIdx} {s : State} (hf : Fetches s (.getc x)) (h : s.dev.input = []) :
    step s = .next (((fetched s).setStatus .blocked).emit .block) := by
  rw [step_of_fetches hf (exec_getc_empty h), endStep_blocked rfl]

/-- A GETC that is fetched with input runs on: the character is taken, and pc moves past the instruction. -/
theorem step_getc_input {x : RegIdx} {c : Byte} {rest : List Byte} {s : State} (hf : Fetches s (.getc x))
    (hj : s.jumped = false) (h : s.dev.input = c :: rest) :
    ∃ u, step s = .next u ∧ u.status = .running ∧ u.pc = BitVec.ofNat 64 (s.pc.toNat + 4)
      ∧ s.WritesReg u x (BitVec.ofNat 64 c.toNat) ∧ u.dev.input = rest ∧ u.flags = s.flags ∧ u.mem = s.mem := by
  have hexec := exec_getc_input (x := x) (s := fetched s) h
  refine ⟨_, step_of_fetches hf hexec, endStep_status _, ?_, ?_, ?_, ?_, ?_⟩
  · rw [endStep_pc_running rfl, setStatus_jumped, writeReg_jumped, setStatus_pc, writeReg_pc, ← add_four_eq_ofNat]
    exact if_neg (by rw [show ((fetched s).setDev _).jumped = false from hj]; decide)
  · exact writesReg_of_regs (writesReg_writeReg ((fetched s).setDev { s.dev with input := rest }) x _) rfl (endStep_regs _)
  · rw [endStep_dev, setStatus_dev, writeReg_dev, setDev_dev]
  · rw [endStep_flags, setStatus_flags, writeReg_flags]
    rfl
  · rw [endStep_mem, setStatus_mem, writeReg_mem]
    rfl

/-- Settles O37: with a character the register write of `exec_getc_input`, with none BLOCKED alone, and the step after each. -/
theorem getcReadsOrBlocks : Obligations.GetcReadsOrBlocks := by
  refine ⟨encodes_rrr (k := .getc) (c := fun x _ _ => .getc x) (by decide) fun _ => rfl, fun x c rest s h => ?input,
    fun x s h => ?empty, fun x s hf hj => ?step⟩
  case input =>
    have hsame := sameButRegsFlags_writeReg (s.setDev { s.dev with input := rest }) x (BitVec.ofNat 64 c.toNat)
    refine ⟨_, exec_getc_input h, writesReg_of_regs (writesReg_writeReg (s.setDev { s.dev with input := rest }) x _) rfl rfl,
      congrArg IODevice.input hsame.dev, (congrArg IODevice.output hsame.dev :), rfl, writeReg_flags _ x _, hsame.control.pc,
      hsame.control.ir, hsame.control.jumped, hsame.control.exitCode, hsame.control.lastError, hsame.control.cfg,
      ⟨hsame.memory.bytes, hsame.memory.pages⟩, writeReg_trace _ x _⟩
  case empty =>
    exact ⟨_, exec_getc_empty h, rfl, rfl, rfl, rfl, rfl, rfl, rfl, rfl, rfl, ⟨fun _ => rfl, rfl⟩, rfl, rfl⟩
  case step =>
    cases hinput : s.dev.input with
    | nil => exact ⟨_, step_getc_empty hf hinput, rfl, rfl⟩
    | cons c rest =>
      obtain ⟨u, hu, hstatus, hpc, -⟩ := step_getc_input hf hj hinput
      exact ⟨u, hu, hpc, hstatus⟩

/-- Settles O44: the blocked state still fetches the GETC, and what arrives is its input. -/
theorem blockedGetcIsRetried : Obligations.BlockedGetcIsRetried := by
  intro s x hf hj hinput
  refine ⟨_, step_getc_empty hf hinput, rfl, rfl, rfl, rfl, rfl, rfl, rfl, rfl, hj, fun c rest => ?_⟩
  have hsupplied : (supplyInput (c :: rest) (((fetched s).setStatus .blocked).emit .block)).dev.input = c :: rest :=
    congrArg (· ++ c :: rest) hinput
  have hfetches : Fetches (supplyInput (c :: rest) (((fetched s).setStatus .blocked).emit .block)) (.getc x) :=
    ⟨Status.noConfusion, hf.2⟩
  obtain ⟨u, hu, hstatus, hpc, hreg, hrest, hflags, hmem⟩ := step_getc_input hfetches hj hsupplied
  exact ⟨u, hu, hstatus, hpc, writesReg_of_regs hreg rfl rfl, hrest, hflags, hmem⟩

end Sys2Proof.Laws.SystemIo
end

section
/-!
PROOF. The host control port (R63, R121, R314, R330, R333): what an image load stores and how many pages it needs, the run
under fuel, and the replay after a reset, whose block differs from a new one in the trace's record alone.
-/

namespace Sys2Proof.Laws.HostControl

open Sys2Proof Sys2Proof.Machine Sys2Proof.Claims Sys2Proof.Laws.Outcomes Sys2Proof.Laws.MemoryWrite

/-! ### The words of an image (R63, R64) -/

/-- The address after a word that is not the last of an image does not wrap. -/
theorem toNat_next_word {a : Word} {ws : List InstrWord} (h : a.toNat + 4 * (ws.length + 1) ≤ 2 ^ 64) :
    ws = [] ∨ (a + 4).toNat = a.toNat + 4 := by
  cases ws with
  | nil => exact .inl rfl
  | cons w ws =>
    rw [List.length_cons] at h
    refine .inr ?_
    rw [BitVec.toNat_add, show BitVec.toNat (4 : Word) = 4 from rfl]
    omega

theorem aligned_next_word {a : Word} (h : a.toNat % 4 = 0) : (a + 4).toNat % 4 = 0 := StoreFetch.aligned_add_four h

theorem storeWords_wf {ws : List InstrWord} {m : Memory} {a : Word} (hwf : m.wf) (ha : a.toNat % 4 = 0) :
    (storeWords m a ws).wf := by
  induction ws generalizing m a with
  | nil => exact hwf
  | cons w ws ih =>
    exact ih (write_wf hwf ((accessError_power powerWidth_b4 a).trans (if_pos ha)) _) (aligned_next_word ha)

/-- Every byte outside an image is as before. -/
theorem storeWords_byte_outside {ws : List InstrWord} {m : Memory} {a : Word} (hwf : m.wf) (ha : a.toNat % 4 = 0)
    (hlen : a.toNat + 4 * ws.length ≤ 2 ^ 64) {b : Nat} (hb : b < a.toNat ∨ a.toNat + 4 * ws.length ≤ b) :
    (storeWords m a ws).byte b = m.byte b := by
  induction ws generalizing m a with
  | nil => rfl
  | cons w ws ih =>
    rw [List.length_cons] at hlen hb
    have hfirst : (m.write a .b4 (w.setWidth 64)).byte b = m.byte b := by
      refine write_byte_outside hwf _ ?_
      rw [show widthBytes .b4 = 4 from rfl]
      omega
    rcases toNat_next_word hlen with rfl | hnext
    · exact hfirst
    · have hwf' := write_wf hwf ((accessError_power powerWidth_b4 a).trans (if_pos ha)) (w.setWidth 64)
      exact (ih hwf' (aligned_next_word ha) (by omega) (by omega)).trans hfirst

/-- The word a four-byte write leaves at its address. -/
theorem wordAt_write {m : Memory} (hwf : m.wf) (a : Word) (w : InstrWord) :
    wordAt (m.write a .b4 (w.setWidth 64)) a.toNat = w := by
  rw [StoreFetch.wordAt_of_digits fun i hi => write_byte_digit (n := .b4) hwf (w.setWidth 64) hi,
    BitVec.toNat_setWidth_of_le (by decide), BitVec.ofNat_toNat, BitVec.setWidth_eq]

theorem wordAt_congr {m m' : Memory} {a : Nat} (h : ∀ i, i < 4 → m'.byte (a + i) = m.byte (a + i)) :
    wordAt m' a = wordAt m a :=
  BitVec.eq_of_toNat_eq (by rw [StoreFetch.toNat_wordAt, StoreFetch.toNat_wordAt, bigEndian_congr h])

/-- Word i of an image stands at its place, big-endian; the words after it do not touch it. -/
theorem storeWords_word {ws : List InstrWord} {m : Memory} {a : Word} (hwf : m.wf) (ha : a.toNat % 4 = 0)
    (hlen : a.toNat + 4 * ws.length ≤ 2 ^ 64) {i : Nat} {w : InstrWord} (hi : ws[i]? = some w) :
    wordAt (storeWords m a ws) (a.toNat + 4 * i) = w := by
  induction ws generalizing m a i with
  | nil => cases hi
  | cons v ws ih =>
    rw [List.length_cons] at hlen
    have hwf' := write_wf hwf ((accessError_power powerWidth_b4 a).trans (if_pos ha)) (v.setWidth 64)
    cases i with
    | zero =>
      obtain rfl : v = w := Option.some.inj hi
      refine Eq.trans (wordAt_congr fun j hj => ?_) (wordAt_write hwf a v)
      rcases toNat_next_word hlen with rfl | hnext
      · rfl
      · exact storeWords_byte_outside hwf' (aligned_next_word ha) (by omega) (by omega)
    | succ i =>
      have hi : ws[i]? = some w := hi
      rcases toNat_next_word hlen with rfl | hnext
      · cases hi
      · have hword := ih hwf' (aligned_next_word ha) (by omega) hi
        rwa [hnext, show a.toNat + 4 + 4 * i = a.toNat + 4 * (i + 1) by omega] at hword

/-! ### The pages of an image (R59, R62, R314) -/

/-- The pages after an image is stored at 0: those there were, and those of its words' addresses. -/
theorem mem_image_pages {ws : List InstrWord} {m : Memory} (hlen : ws.length ≤ 2 ^ 62) {p : Nat} :
    p ∈ (storeWords m 0 ws).pages ↔ p ∈ m.pages ∨ ∃ i, i < ws.length ∧ p = 4 * i / 1024 := by
  have hpage : ∀ i, i < ws.length → pageOf (0 + BitVec.ofNat 64 (4 * i)) = 4 * i / 1024 := by
    intro i hi
    rw [pageOf, zero_add, BitVec.toNat_ofNat, Nat.mod_eq_of_lt (by omega)]
    rfl
  rw [mem_storeWords_pages]
  refine or_congr_right (exists_congr fun i => and_congr_right fun hi => ?_)
  rw [hpage i hi]

/-- The pages of an image's words are the first pages, as many as its bytes reach into. -/
theorem image_page_iff {k p : Nat} : (∃ i, i < k ∧ p = 4 * i / 1024) ↔ p < (k + 255) / 256 := by
  constructor
  · rintro ⟨i, hi, rfl⟩
    omega
  · exact fun hp => ⟨256 * p, by omega, by omega⟩

/-- Rising page numbers have no repeats. -/
theorem nodup_of_rising {ps : List Nat} (h : ps.Pairwise (fun p q => p < q)) : ps.Nodup := h.imp fun hlt => Nat.ne_of_lt hlt

/-- An image load allocates exactly the pages it needs and does not find (R63, R314). -/
theorem image_pages_length {ws : List InstrWord} {m : Memory} (hwf : m.wf) (hlen : ws.length ≤ 2 ^ 62) :
    (storeWords m 0 ws).pages.length = m.pages.length + newImagePages m ws.length := by
  obtain ⟨-, -, hnew, -⟩ : (storeWords m 0 ws).wf := storeWords_wf hwf rfl
  obtain ⟨-, -, hold, -⟩ := hwf
  have hnodup : (m.pages ++ (List.range ((ws.length + 255) / 256)).filter fun p => decide (p ∉ m.pages)).Nodup := by
    refine List.nodup_append.mpr ⟨nodup_of_rising hold, List.nodup_range.filter _, fun p hp q hq heq => ?_⟩
    exact of_decide_eq_true (List.mem_filter.mp hq).2 (heq ▸ hp)
  have hperm : (storeWords m 0 ws).pages.Perm
      (m.pages ++ (List.range ((ws.length + 255) / 256)).filter fun p => decide (p ∉ m.pages)) := by
    refine (List.perm_ext_iff_of_nodup (nodup_of_rising hnew) hnodup).mpr fun p => ?_
    rw [mem_image_pages hlen, image_page_iff, List.mem_append, List.mem_filter, List.mem_range, decide_eq_true_eq]
    tauto
  rw [hperm.length_eq, List.length_append, newImagePages]

theorem loadImage_ok {words : List InstrWord} {s : State} (hlen : words.length ≤ 2 ^ 62)
    (hfit : fitsCapacity s.cfg.pageCapacity (storeWords s.mem 0 words) = true) :
    loadImage words s = .next ((s.setMem (storeWords s.mem 0 words)).emit (.imageLoaded words)) :=
  (if_neg (Nat.not_lt.mpr hlen)).trans (if_pos hfit)

/-- Settles O57: the load stores the words of `storeWords_word`, and the pages it needs are counted. -/
theorem imageLoadWritesWords : Obligations.ImageLoadWritesWords := by
  refine ⟨fun words s hwf hlen hroom => ?loads, fun words s n hwf hlen hcap _ hfull => ?full, fun words s hlong => if_pos hlong⟩
  case loads =>
    have hfit : fitsCapacity s.cfg.pageCapacity (storeWords s.mem 0 words) = true := by
      cases hcap : s.cfg.pageCapacity with
      | none => rfl
      | some n => exact decide_eq_true ((image_pages_length hwf hlen).trans_le (hroom n hcap))
    have hspan : BitVec.toNat (0 : Word) + 4 * words.length ≤ 2 ^ 64 := by
      rw [show BitVec.toNat (0 : Word) = 0 from rfl]
      omega
    refine ⟨_, loadImage_ok hlen hfit, fun i w hi => ?_, fun a ha => ?_, fun p => mem_image_pages hlen,
      storeWords_wf hwf rfl, rfl, rfl, ⟨⟨rfl, rfl, rfl, rfl, rfl⟩, rfl, rfl⟩, rfl, rfl⟩
    · simpa using storeWords_word hwf rfl hspan hi
    · exact storeWords_byte_outside hwf rfl hspan (.inr (by simpa using ha))
  case full =>
    have hfit : ¬ fitsCapacity s.cfg.pageCapacity (storeWords s.mem 0 words) = true := by
      rw [hcap, fitsCapacity, decide_eq_true_eq, image_pages_length hwf hlen]
      omega
    exact (if_neg (Nat.not_lt.mpr hlen)).trans (if_neg hfit)

/-! ### The run under fuel (R121, R122) -/

theorem runFuel_zero {s : State} (h : s.status ≠ .halted) : runFuel 0 s = none := by
  rw [runFuel, if_neg h]

theorem runFuel_succ {s t : State} (h : s.status ≠ .halted) (hs : step s = .next t) (n : Nat) :
    runFuel (n + 1) s = runFuel n t := by
  rw [runFuel, if_neg h, hs]

/-- Settles O59: by induction on the fuel; a run that has ended does not use the fuel left. -/
theorem runEndsHaltedAndFuelAddsNothing : Obligations.RunEndsHaltedAndFuelAddsNothing := by
  intro n
  induction n with
  | zero =>
    intro s c t h
    by_cases hs : s.status = .halted
    · rw [Steps.runFuel_halted hs] at h
      cases h
      exact ⟨hs, rfl, fun k => Steps.runFuel_halted hs _⟩
    · rw [runFuel_zero hs] at h
      cases h
  | succ n ih =>
    intro s c t h
    by_cases hs : s.status = .halted
    · rw [Steps.runFuel_halted hs] at h
      cases h
      exact ⟨hs, rfl, fun k => Steps.runFuel_halted hs _⟩
    · obtain ⟨u, hu, -⟩ := Steps.step_answers hs
      rw [runFuel_succ hs hu] at h
      obtain ⟨hhalt, hcode, hmore⟩ := ih u c t h
      refine ⟨hhalt, hcode, fun k => ?_⟩
      rw [Nat.add_right_comm, runFuel_succ hs hu, hmore]

/-! ### Reset and reload (R333) -/

section Replay

open Sys2Proof.Laws.TraceBlindness

theorem loadImage_traceBlind (words : List InstrWord) : TraceBlind (loadImage words) := by
  intro tr s
  unfold loadImage
  rw [withOlder_cfg, withOlder_mem]
  split
  · rfl
  · split <;> rfl

/-- The run from a state with an older record below its own ends as the run without it, the record below the end's. -/
theorem runFuel_withOlder (tr : List TraceEvent) (n : Nat) (s : State) :
    runFuel n (withOlder tr s) = (runFuel n s).map fun r => (r.1, withOlder tr r.2) := by
  induction n generalizing s with
  | zero =>
    by_cases hs : s.status = .halted
    · rw [Steps.runFuel_halted hs, Steps.runFuel_halted (s := withOlder tr s) hs]
      rfl
    · rw [runFuel_zero hs, runFuel_zero (s := withOlder tr s) hs]
      rfl
  | succ n ih =>
    by_cases hs : s.status = .halted
    · rw [Steps.runFuel_halted hs, Steps.runFuel_halted (s := withOlder tr s) hs]
      rfl
    · obtain ⟨u, hu, -⟩ := Steps.step_answers hs
      have hu' : step (withOlder tr s) = .next (withOlder tr u) := by rw [step_traceBlind tr s, hu, resultWithOlder_next]
      rw [runFuel_succ hs hu, runFuel_succ (s := withOlder tr s) hs hu', ih]

/-- Settles O60: the reset block is the new one with the record of the past and the ResetEvent below its own. -/
theorem resetAndReloadReplays : Obligations.ResetAndReloadReplays := by
  intro s words n
  have hreset : hostReset s
      = withOlder (.reset :: s.trace) { State.reset with cfg := s.cfg, dev := Config.deviceReset s.dev } := rfl
  rw [hreset, loadImage_traceBlind]
  cases loadImage words { State.reset with cfg := s.cfg, dev := Config.deviceReset s.dev } with
  | next a =>
    change Option.map _ _ = Option.map _ (runFuel n (withOlder _ a))
    rw [runFuel_withOlder, Option.map_map]
    rfl
  | fault r => cases r
  | refused p => rfl

end Replay

/-! ### li64 (R97) -/

/-- A 16-bit chunk of a constant as a number. -/
theorem toNat_chunk (c : Word) (k : Nat) : (zeroExt (c.extractLsb' k 16)).toNat = c.toNat / 2 ^ k % 65536 := by
  rw [OperandValues.toNat_zeroExt (by decide), BitVec.extractLsb'_toNat, Nat.shiftRight_eq_div_pow]

/-- SHLDI of the next chunk onto the chunks above it. -/
theorem toNat_next_chunk {c v : Word} {k : Nat} (h : v.toNat = c.toNat / 2 ^ (k + 16)) :
    (BitVec.ofNat 64 (v.toNat * 65536 + (zeroExt (c.extractLsb' k 16)).toNat)).toNat = c.toNat / 2 ^ k := by
  have hsplit : c.toNat / 2 ^ (k + 16) = c.toNat / 2 ^ k / 65536 := by rw [Nat.pow_add, Nat.div_div_eq_div_mul]
  have hlt : c.toNat / 2 ^ k < 2 ^ 64 := Nat.lt_of_le_of_lt (Nat.div_le_self _ _) c.isLt
  rw [toNat_chunk, h, hsplit, BitVec.toNat_ofNat, show c.toNat / 2 ^ k / 65536 * 65536 + c.toNat / 2 ^ k % 65536
    = c.toNat / 2 ^ k by omega, Nat.mod_eq_of_lt hlt]

/-- A second write of the same register with ZF leaves the effect of the second alone. -/
theorem writesWithZf_trans {v w : Word} {r : RegIdx} {s t u : State} (hst : WritesWithZf v r s t)
    (htu : WritesWithZf w r t u) : WritesWithZf w r s u := by
  obtain ⟨hreg, hflags, hsame⟩ := hst
  obtain ⟨hreg', hflags', hsame'⟩ := htu
  refine ⟨⟨hreg'.written, fun j hj => (hreg'.others j hj).trans (hreg.others j hj), hreg'.slotZero.trans hreg.slotZero⟩, ?_,
    RegisterEffects.sameButRegsFlags_trans hsame hsame'⟩
  rw [hflags', hflags]

/-- One SHLDI after `x[r]` was written with ZF. -/
theorem shldi_after {v : Word} (u : Word) {r : RegIdx} {s t : State} (hr : r ≠ 0) (h : WritesWithZf v r s t) :
    ∃ t', exec (.shldi u r) t = .next t' ∧ WritesWithZf (BitVec.ofNat 64 (v.toNat * 65536 + u.toNat)) r s t' := by
  have hv : t.reg r = v := h.1.written.trans (if_neg hr)
  obtain ⟨t', hexec, heffect, -⟩ := ImmediateLoads.shiftLeftAndLoad.2 u r t
  exact ⟨t', hexec, writesWithZf_trans h (hv ▸ heffect)⟩

theorem execAll_cons {i : Instr} {is : List Instr} {s t : State} (h : exec i s = .next t) :
    execAll (i :: is) s = execAll is t := by
  rw [execAll, h]

/-- Settles O58: each word leaves the constant's chunks so far, the last one the constant. -/
theorem li64BuildsEveryConstant : Obligations.Li64BuildsEveryConstant := by
  intro c r s hr
  obtain ⟨-, -, hldiu, -⟩ := ImmediateLoads.immediateLoadsWriteValueAndZf
  obtain ⟨t1, h1, e1, -⟩ := hldiu (zeroExt (c.extractLsb' 48 16)) r s
  obtain ⟨t2, h2, e2⟩ := shldi_after (zeroExt (c.extractLsb' 32 16)) hr e1
  obtain ⟨t3, h3, e3⟩ := shldi_after (zeroExt (c.extractLsb' 16 16)) hr e2
  obtain ⟨t4, h4, e4⟩ := shldi_after (zeroExt (c.extractLsb' 0 16)) hr e3
  have hfirst : (zeroExt (c.extractLsb' 48 16)).toNat = c.toNat / 2 ^ (32 + 16) := by
    have hlt := c.isLt
    rw [toNat_chunk]
    omega
  have hlast := toNat_next_chunk (toNat_next_chunk (toNat_next_chunk hfirst))
  rw [Nat.pow_zero, Nat.div_one] at hlast
  refine ⟨t4, ?_, BitVec.eq_of_toNat_eq hlast ▸ e4⟩
  rw [pseudoLi64, execAll_cons h1, execAll_cons h2, execAll_cons h3, execAll_cons h4, execAll]

end Sys2Proof.Laws.HostControl
end
